-- ==== Sys2Proof/Word.lean ====
section
/-! DEFINITION. The block's data words: bytes and character strings (spec/00_scope.md R9, R10, R14). -/

namespace Sys2Proof

/-- Every datum of the block is a byte, 8 bits, unsigned, bit 7 the most significant (R9, R10). -/
abbrev Byte := BitVec 8

/-- A string is a finite sequence of character codes, each a natural number (R14). -/
abbrev Text := List Nat

/-- The character codes of a literal: ASCII, K5 (R17). -/
def text (cs : List Char) : Text := cs.map Char.toNat

end Sys2Proof
end

