-- ==== Sys2Proof/Config.lean ====
section
/-! DEFINITION. What is fixed when the block is constructed (spec/00_scope.md R8, spec/10_state.md R28), and
the free values: the answers of the collaborators outside the block (R19, U8, U9). -/

namespace Sys2Proof

/-- R29: the presence strategy, 0 = PinSensed, 1 = ProtocolPolled. -/
inductive PresenceMode where
  | pinSensed
  | protocolPolled
deriving DecidableEq, Repr, Inhabited

/-- The configuration fields of R28 that the host chooses at construction (all OPEN, D27). The widths of
DEV_ADDR and PIN are not in the source (N3, N4), so both are naturals. -/
structure Config where
  mode             : PresenceMode
  devAddr          : Nat
  pin              : Nat
  cmdSelectMifare  : Byte
  cmdGetFirmware   : Byte
  typeName02       : Text
  typeName03       : Text
  typeName04       : Text
  typeName05       : Text
  typeName06       : Text
deriving DecidableEq, Repr, Inhabited

/-- The configuration the host constructed this block with. No body: nothing can be proved of its values
(assumption 2). -/
opaque Config.chosen : Config

/-! The hardwired parameters of R8. -/

/-- MAXFRAME: the bytes every bus read asks for, and the size of RXBUF (R8, D31). -/
abbrev maxFrame : Nat := 15
/-- MINLEN_SELECT (R8). -/
abbrev minLenSelect : Nat := 3
/-- MINLEN_FIRMWARE (R8). -/
abbrev minLenFirmware : Nat := 15
/-- T_TURNAROUND in milliseconds (R8, R247). -/
abbrev tTurnaround : Nat := 50
/-- T_POLL_PRESENT in milliseconds (R8). -/
abbrev tPollPresent : Nat := 10
/-- T_POLL_ABSENT in milliseconds (R8). -/
abbrev tPollAbsent : Nat := 500
/-- STATUS_OK (R8, R90). -/
abbrev statusOk : Byte := 0x00
/-- MAGIC, ASCII 'S' (R8, R93). -/
abbrev magic : Byte := 0x53
/-- MAGIC_CORRUPT, MAGIC with bit 7 set (R8, R93). -/
abbrev magicCorrupt : Byte := 0xD3
/-- CMDLEN, the length byte of a command frame (R8, R82). -/
abbrev cmdLen : Byte := 0x01
/-- UIDMAX = MAXFRAME - 4 (R8, R23). -/
abbrev uidMax : Nat := 11
/-- FWMAX = MAXFRAME - 3 (R8, R38). -/
abbrev fwMax : Nat := 12

/-- What the Bus Transport answers to a write (R55). -/
inductive WriteAnswer where
  | ok
  | ioError
deriving DecidableEq, Repr, Inhabited

/-- What the Bus Transport answers to a read (R56). -/
inductive ReadAnswer where
  | bytes (raw : List Byte)
  | ioError
deriving DecidableEq, Repr, Inhabited

/-- What the Digital Input answers (R66). Low means a tag is present. -/
inductive Level where
  | high
  | low
deriving DecidableEq, Repr, Inhabited

/-! The oracle draws under no law (U8, U9, R42): the k-th answer a collaborator gives that no script of
the state has laid down. No body, so nothing can be proved of them (assumption 3). -/

opaque Config.freeWrite  : Nat → WriteAnswer
opaque Config.freeRead   : Nat → ReadAnswer
opaque Config.freeLevel  : Nat → Level
opaque Config.freeCancel : Nat → Bool

/-- R31, R214: what RXBUF holds where the spec defines nothing, each time it is left so. No body (assumption 5). -/
opaque Config.freeRxBuf : Nat → Vector Byte 15

end Sys2Proof
end

