-- ==== Sys2Proof/Syntax.lean ====
section
/-! DEFINITION. The instructions: one constructor per row of spec/opcode_table.json. Sixteen are operation
words of the host port (spec/30_encoding.md R96, R97), six are frames of the wire (R82 to R89). Byte
sequences that the host passes beside the word (`raw`, `payload`, `uid`) are no part of the word: they stand
on the operand lines of `Machine.State` (R97). -/

namespace Sys2Proof

/-- The parsed view of a response (R32, R84): LEN, CMD and the LEN - 1 payload bytes. -/
structure ResponseFrame where
  length  : Byte
  command : Byte
  payload : List Byte
deriving DecidableEq, Repr

inductive Instr where
  /-- R110, ENCODE_COMMAND(cmd) -/
  | encodeCommand (cmd : Byte)
  /-- R111, DECODE_FRAME(raw, minLen) -/
  | decodeFrame (minLen : Byte)
  /-- R130, VALIDATE(bytes) -/
  | validate
  /-- R140, SELECT_TAG() -/
  | selectTag
  /-- R141, GET_FIRMWARE() -/
  | getFirmware
  /-- R142, DESELECT() -/
  | deselect
  /-- R143, GET_UID() -/
  | getUid
  /-- R144, GET_UID_HEX() -/
  | getUidHex
  /-- R145, GET_TYPE() -/
  | getType
  /-- R147, TYPE_NAME(code) -/
  | typeName (code : Byte)
  /-- R146, UID_TO_HEX(uid) -/
  | uidToHex
  /-- R180, IS_PRESENT() -/
  | isPresent
  /-- R181, WAIT_UNTIL_PRESENT() -/
  | waitUntilPresent
  /-- R182, WAIT_UNTIL_ABSENT() -/
  | waitUntilAbsent
  /-- R97, operation code 0xE -/
  | unassignedE
  /-- R97, operation code 0xF -/
  | unassignedF
  /-- R82, the command frame `[0x01, cmd]` -/
  | cmdFrame (cmd : Byte)
  /-- R83, the command frame SELECT_TAG sends; its CMD byte is the configured CMD_SELECT_MIFARE -/
  | cmdFrameSelectMifare
  /-- R83, the command frame GET_FIRMWARE sends; its CMD byte is the configured CMD_GET_FIRMWARE -/
  | cmdFrameGetFirmware
  /-- R84, a response frame; LEN is `payload.length + 1` -/
  | respFrame (cmd : Byte) (payload : List Byte)
  /-- R86, a select response; TYPE is `none` in the shortest frame, LEN = 2 -/
  | respSelect (cmd status : Byte) (uid : List Byte) (type : Option Byte)
  /-- R88, a firmware response; LEN is `fwid.length + 2` -/
  | respFirmware (cmd reserved : Byte) (fwid : List Byte)
deriving DecidableEq, Repr

end Sys2Proof
end

