-- ==== Sys2Proof/WellFormed.lean ====
section
/-! DEFINITION. Which terms of `Instr` stand for something the spec's formats can hold. Every host operation
does (R97: every ARG byte is legal); a response frame must fit one 15-byte read (R84, R100). -/

namespace Sys2Proof

/-- A response frame has 3 to 15 bytes, so 1 to 13 payload bytes (R84; opcode table RESP_FRAME). -/
def payloadFits (payload : List Byte) : Bool := decide (1 ≤ payload.length ∧ payload.length ≤ 13)

/-- R23, R86: a UID of at most UIDMAX bytes, and none where there is no TYPE byte (LEN = 2 is STATUS alone). -/
def uidFits (uid : List Byte) (type : Option Byte) : Bool :=
  decide (uid.length ≤ uidMax) && (type.isSome || uid.isEmpty)

/-- R38, R88: a firmware identifier of at most FWMAX bytes. -/
def fwidFits (fwid : List Byte) : Bool := decide (fwid.length ≤ fwMax)

def Instr.wellFormed : Instr → Bool
  | .encodeCommand _ => true
  | .decodeFrame _ => true
  | .validate => true
  | .selectTag => true
  | .getFirmware => true
  | .deselect => true
  | .getUid => true
  | .getUidHex => true
  | .getType => true
  | .typeName _ => true
  | .uidToHex => true
  | .isPresent => true
  | .waitUntilPresent => true
  | .waitUntilAbsent => true
  | .unassignedE => true
  | .unassignedF => true
  | .cmdFrame _ => true
  | .cmdFrameSelectMifare => true
  | .cmdFrameGetFirmware => true
  | .respFrame _ payload => payloadFits payload
  | .respSelect _ _ uid type => uidFits uid type
  | .respFirmware _ _ fwid => fwidFits fwid

end Sys2Proof
end

