-- ==== Sys2Proof/Decode.lean ====
section
/-! DEFINITION. From bits to instructions and back: the 12-bit operation word of the host port
(spec/30_encoding.md R97) and the byte frames of the wire (R80 to R89). Decoding is total; what the formats
do not admit is rejected by name. -/

namespace Sys2Proof

/-- Why bits are no instruction. -/
inductive DecodeError where
  /-- a value that does not fit the 12 bits of an operation word -/
  | wordTooWide
  /-- a number of bits that no operation word is laid out in -/
  | wrongWidth
  /-- bits of one kind (word, frame) at a port of the other -/
  | wrongPort
  /-- R84 check 1 -/
  | shorterThanMinLen
  /-- R84 check 2 -/
  | noLengthByte
  /-- R84 check 3 -/
  | lengthBelowTwo
  /-- R84 check 4 -/
  | frameNotInsideRead
  /-- a frame view without a payload byte: no STATUS, no RESERVED byte -/
  | emptyPayload
  /-- R82: a command frame is two bytes, the first 0x01 -/
  | notACommandFrame
  /-- R83: the CMD byte is not the configured one -/
  | notTheConfiguredCommand
deriving DecidableEq, Repr

/-! ### The host operation word -/

/-- `OPW[11:8]` (R97). -/
def opField (w : BitVec 12) : BitVec 4 := w.extractLsb' 8 4

/-- `OPW[7:0]` (R97). -/
def argField (w : BitVec 12) : Byte := w.extractLsb' 0 8

/-- R97: the code table. Every word has a row; ARG is dropped where the operation ignores it. -/
def decodeOp (w : BitVec 12) : Instr :=
  match (opField w).toNat with
  | 0 => .encodeCommand (argField w)
  | 1 => .decodeFrame (argField w)
  | 2 => .validate
  | 3 => .selectTag
  | 4 => .getFirmware
  | 5 => .deselect
  | 6 => .getUid
  | 7 => .getUidHex
  | 8 => .getType
  | 9 => .typeName (argField w)
  | 10 => .uidToHex
  | 11 => .isPresent
  | 12 => .waitUntilPresent
  | 13 => .waitUntilAbsent
  | 14 => .unassignedE
  | _ => .unassignedF

/-! ### Frames -/

/-- R84, R111: the four checks in their order, then the fields. No byte is read before the check that
proves it exists. -/
def decodeResponse (raw : List Byte) (minLen : Nat) : Except DecodeError ResponseFrame :=
  if raw.length < minLen then .error .shorterThanMinLen
  else match raw with
    | [] => .error .noLengthByte
    | len :: after =>
      if len.toNat < 2 then .error .lengthBelowTwo
      else if len.toNat + 1 > raw.length then .error .frameNotInsideRead
      else match after with
        | [] => .error .frameNotInsideRead
        | cmd :: rest => .ok ⟨len, cmd, rest.take (len.toNat - 1)⟩

/-- A frame view as the RESP_FRAME row (R84). -/
def frameFields (f : ResponseFrame) : Instr := .respFrame f.command f.payload

/-- R86: STATUS is payload index 0, TYPE the last payload byte, the UID what stands between. -/
def selectFields (f : ResponseFrame) : Except DecodeError Instr :=
  match f.payload with
  | [] => .error .emptyPayload
  | status :: rest => .ok (.respSelect f.command status rest.dropLast rest.getLast?)

/-- R88: RESERVED is payload index 0, FWID the rest. -/
def firmwareFields (f : ResponseFrame) : Except DecodeError Instr :=
  match f.payload with
  | [] => .error .emptyPayload
  | reserved :: fwid => .ok (.respFirmware f.command reserved fwid)

/-- R82: the CMD byte of a command frame. -/
def decodeCommand (bytes : List Byte) : Except DecodeError Byte :=
  match bytes with
  | [len, cmd] => if len = cmdLen then .ok cmd else .error .notACommandFrame
  | _ => .error .notACommandFrame

/-! ### Both, by the port the bits stand at -/

/-- Where bits are met. A frame does not say which layout it has: the block knows it from what it is
doing (R86, R88: the layout expected by the operation in progress). -/
inductive Port where
  | hostWord
  | command
  | selectCommand
  | firmwareCommand
  | response
  | selectResponse
  | firmwareResponse
deriving DecidableEq, Repr

/-- The bits of an instruction. -/
inductive Encoded where
  | word (w : BitVec 12)
  | frame (bytes : List Byte)
deriving DecidableEq, Repr

def decode (cfg : Config) (port : Port) (e : Encoded) : Except DecodeError Instr :=
  match port, e with
  | .hostWord, .word w => .ok (decodeOp w)
  | .command, .frame b => (decodeCommand b).map Instr.cmdFrame
  | .selectCommand, .frame b =>
    match decodeCommand b with
    | .error d => .error d
    | .ok cmd =>
      if cmd = cfg.cmdSelectMifare then .ok .cmdFrameSelectMifare else .error .notTheConfiguredCommand
  | .firmwareCommand, .frame b =>
    match decodeCommand b with
    | .error d => .error d
    | .ok cmd =>
      if cmd = cfg.cmdGetFirmware then .ok .cmdFrameGetFirmware else .error .notTheConfiguredCommand
  | .response, .frame b => (decodeResponse b 0).map frameFields
  | .selectResponse, .frame b =>
    match decodeResponse b 0 with
    | .error d => .error d
    | .ok f => selectFields f
  | .firmwareResponse, .frame b =>
    match decodeResponse b 0 with
    | .error d => .error d
    | .ok f => firmwareFields f
  | .hostWord, .frame _ => .error .wrongPort
  | .command, .word _ => .error .wrongPort
  | .selectCommand, .word _ => .error .wrongPort
  | .firmwareCommand, .word _ => .error .wrongPort
  | .response, .word _ => .error .wrongPort
  | .selectResponse, .word _ => .error .wrongPort
  | .firmwareResponse, .word _ => .error .wrongPort

/-! ### The encoder -/

/-- R97: OP in bits 11:8, ARG in bits 7:0 (0 where it is ignored). -/
def opWord (op : BitVec 4) (arg : Byte) : BitVec 12 := op ++ arg

/-- R80: LEN, CMD, PAYLOAD with LEN the number of bytes after itself (R81). -/
def frameBytes (cmd : Byte) (payload : List Byte) : List Byte :=
  BitVec.ofNat 8 (payload.length + 1) :: cmd :: payload

/-- R86: STATUS, then the UID bytes, then TYPE. -/
def selectPayload (status : Byte) (uid : List Byte) (type : Option Byte) : List Byte :=
  status :: (uid ++ type.toList)

/-- The port an instruction's bits stand at. -/
def Instr.port : Instr → Port
  | .encodeCommand _ => .hostWord
  | .decodeFrame _ => .hostWord
  | .validate => .hostWord
  | .selectTag => .hostWord
  | .getFirmware => .hostWord
  | .deselect => .hostWord
  | .getUid => .hostWord
  | .getUidHex => .hostWord
  | .getType => .hostWord
  | .typeName _ => .hostWord
  | .uidToHex => .hostWord
  | .isPresent => .hostWord
  | .waitUntilPresent => .hostWord
  | .waitUntilAbsent => .hostWord
  | .unassignedE => .hostWord
  | .unassignedF => .hostWord
  | .cmdFrame _ => .command
  | .cmdFrameSelectMifare => .selectCommand
  | .cmdFrameGetFirmware => .firmwareCommand
  | .respFrame _ _ => .response
  | .respSelect _ _ _ _ => .selectResponse
  | .respFirmware _ _ _ => .firmwareResponse

def encode (cfg : Config) : Instr → Encoded
  | .encodeCommand cmd => .word (opWord 0x0 cmd)
  | .decodeFrame minLen => .word (opWord 0x1 minLen)
  | .validate => .word (opWord 0x2 0x00)
  | .selectTag => .word (opWord 0x3 0x00)
  | .getFirmware => .word (opWord 0x4 0x00)
  | .deselect => .word (opWord 0x5 0x00)
  | .getUid => .word (opWord 0x6 0x00)
  | .getUidHex => .word (opWord 0x7 0x00)
  | .getType => .word (opWord 0x8 0x00)
  | .typeName code => .word (opWord 0x9 code)
  | .uidToHex => .word (opWord 0xA 0x00)
  | .isPresent => .word (opWord 0xB 0x00)
  | .waitUntilPresent => .word (opWord 0xC 0x00)
  | .waitUntilAbsent => .word (opWord 0xD 0x00)
  | .unassignedE => .word (opWord 0xE 0x00)
  | .unassignedF => .word (opWord 0xF 0x00)
  | .cmdFrame cmd => .frame [cmdLen, cmd]
  | .cmdFrameSelectMifare => .frame [cmdLen, cfg.cmdSelectMifare]
  | .cmdFrameGetFirmware => .frame [cmdLen, cfg.cmdGetFirmware]
  | .respFrame cmd payload => .frame (frameBytes cmd payload)
  | .respSelect cmd status uid type => .frame (frameBytes cmd (selectPayload status uid type))
  | .respFirmware cmd reserved fwid => .frame (frameBytes cmd (reserved :: fwid))

/-! ### The table's numbering -/

/-- An operation word given as a number: 12 bits, laid out in 12 to 16 bits with nothing above bit 11. That a larger
number is no word is a DESIGN CHOICE, R97 being silent on it (assumption 11). -/
def decodeHostNumber (nbits w : Nat) : Except DecodeError Instr :=
  if nbits < 12 ∨ 16 < nbits then .error .wrongWidth
  else if 4096 ≤ w then .error .wordTooWide
  else .ok (decodeOp (BitVec.ofNat 12 w))

/-- The host's reading of the table. The 16-bit rows CMD_FRAME* have the same numbers as the words of
DECODE_FRAME (0x01cc); a number names the operation word, since only operation words are presented to the
block as numbers (assumption 11). -/
def decodeTableWord (nbits w : Nat) : Option Instr :=
  match decodeHostNumber nbits w with
  | .ok i => some i
  | .error _ => none

end Sys2Proof
end

