-- ==== Sys2Proof/Machine/State.lean ====
section
/-! DEFINITION. Everything the spec gives the machine, as plain data (spec/10_state.md), the answers the
collaborators will give (spec/00_scope.md R19, R101) and the record of what the block did (R40). -/

namespace Sys2Proof.Machine

/-- R33: the sequencer's position inside the operation in progress. -/
inductive Phase where
  | idle
  | encode
  | txWrite
  | turnaround
  | rxRead
  | decode
  | validate
  | commit
  | poll
  | pollWait
  | done
deriving DecidableEq, Repr, Inhabited

/-- R130: the Version Validator's verdict. -/
inductive Verdict where
  | recognizedOk
  | unrecognizedDevice
  | clockSpeedCorruption
deriving DecidableEq, Repr

/-- R13, R200: the errors that end an operation. -/
inductive ErrorKind where
  | ioError
  | malformedFrame
  | cancelled
  | refused
deriving DecidableEq, Repr

/-- The payloads of `Ok` (R13), one constructor per payload type an operation's rule states. -/
inductive Value where
  /-- `Ok(())`: DESELECT and the waits -/
  | done
  /-- ENCODE_COMMAND, GET_UID -/
  | bytes (b : List Byte)
  /-- DECODE_FRAME -/
  | frame (f : ResponseFrame)
  /-- VALIDATE -/
  | verdict (v : Verdict)
  /-- SELECT_TAG: `Selected(cardType, uid)` -/
  | selected (cardType : Byte) (uid : List Byte)
  /-- SELECT_TAG: `NoTag`, a negative result and no error (R203) -/
  | noTag
  /-- GET_FIRMWARE: the string and the diagnostic that travels with it (R131) -/
  | firmware (id : Text) (v : Verdict)
  /-- GET_UID_HEX, UID_TO_HEX, TYPE_NAME -/
  | text (t : Text)
  /-- GET_TYPE: `Some(byte)` or `None` -/
  | cardType (c : Option Byte)
  /-- IS_PRESENT -/
  | present (b : Bool)
deriving DecidableEq, Repr

/-- R140: what a select that did not fail finds. -/
inductive SelectResult where
  | selected (cardType : Byte) (uid : List Byte)
  | noTag
deriving DecidableEq, Repr

/-- The payload of SELECT_TAG's `Ok` (R140). -/
def SelectResult.value : SelectResult → Value
  | .selected cardType uid => .selected cardType uid
  | .noTag => .noTag

/-- R13: the one result an operation returns. -/
inductive Result where
  | ok (v : Value)
  | err (e : ErrorKind)
deriving DecidableEq, Repr

/-- R40: an event the block causes. -/
inductive Event where
  | write (addr : Nat) (bytes : List Byte)
  | delay (ms : Nat)
  | read (addr maxLen : Nat)
  | level (pin : Nat)
deriving DecidableEq, Repr

/-- A result handed to the host, and how many events had been caused by then: with it the order of
results among the events (R40) can be told. -/
structure Returned where
  after : Nat
  value : Result
deriving DecidableEq, Repr

/-- What the host presents at its port: the operation word and, beside it, the byte-sequence operand (R97). -/
structure Request where
  word    : BitVec 12
  operand : List Byte
deriving DecidableEq, Repr

/-- The answers of one collaborator (R101): those laid down, first asked first, and the number of answers
drawn freely after they ran out. -/
structure Script (α : Type) where
  scripted : List α
  drawn    : Nat
deriving DecidableEq, Repr

structure State where
  /-- Configuration (R28), constant after construction. -/
  cfg         : Config
  /-- SEL (R21): `true` is Selected. -/
  sel         : Bool
  /-- CARDTYPE (R22); `none` is "unset". -/
  cardType    : Option Byte
  /-- UID (R23): `UID[0 .. UIDLEN-1]`, at most eleven bytes. UIDLEN is its length; what the other registers of
  UID hold is unspecified and nothing reads it (U14). -/
  uid         : List Byte
  /-- TXBUF[0..1] (R30). -/
  txBuf       : Vector Byte 2
  /-- RXBUF[0..14] (R31). -/
  rxBuf       : Vector Byte 15
  /-- RXCNT (R31). -/
  rxCnt       : Nat
  /-- The ResponseFrame view F_LEN, F_CMD, F_PAYLOAD (R32). -/
  frame       : Option ResponseFrame
  /-- FWID (R38), from DECODE of GET_FIRMWARE to DONE. -/
  fwid        : Option (List Byte)
  /-- What DECODE extracted from a select response (R33, R87), from there to the end of the select: NoTag, or the
  TYPE byte and the UID bytes. The model's own holder for it (assumption 21). -/
  found       : Option SelectResult
  /-- PHASE (R33); BUSY is read off it (R35). -/
  phase       : Phase
  /-- Whether a transport session is open (R39, R67). -/
  session     : Bool
  /-- The operation in progress (R33, R69), kept while the block is busy. -/
  current     : Option Instr
  /-- The result the operation in progress will end with, once it is known (R34: it is handed over in DONE). -/
  outcome     : Option Result
  /-- The byte-sequence operand beside the word (R97), sampled when an operation starts (R69). -/
  operand     : List Byte
  /-- The operations the host will present, each after the one before has returned (R101). -/
  program     : List Request
  /-- The operations the host presents while the block is busy, against R248. -/
  overlapping : List Request
  /-- The results handed to the host, oldest first (R13, R40). -/
  results     : List Returned
  /-- The event history, oldest first (R40). -/
  history     : List Event
  /-- Bus Transport, writes (R55). -/
  writes      : Script WriteAnswer
  /-- Bus Transport, reads (R56). -/
  reads       : Script ReadAnswer
  /-- Digital Input (R66). -/
  levels      : Script Level
  /-- The model's own: how often RXBUF was left with contents the spec does not define (R31, R214). -/
  freeDraws   : Nat
  /-- CANCEL, one value for each time it is sampled (R42). -/
  cancels     : Script Bool
deriving DecidableEq, Repr

/-- Why the machine stops with a fault. -/
inductive Fault where
  /-- The sequencer stands in a phase without what the phase works on (no operation in progress, no frame
  view, no result). Raised by `sequencerStep`; no run reaches such a state (obligation StepNeverStops). Safe. -/
  | sequencerStuck (p : Phase)
deriving DecidableEq, Repr

/-- Why an instruction has no meaning. -/
inductive Refusal where
  /-- An instruction without a meaning yet, by its mnemonic. Raised by `exec` alone; no arm does. Safe. -/
  | notModelled (mnemonic : String)
deriving DecidableEq, Repr

/-- A collaborator for whose answers no script is laid down. -/
def Script.free {α : Type} : Script α := ⟨[], 0⟩

/-- R240, R41: construction of the driver with a configuration. The bytes the spec leaves unspecified are
zero (assumption 1). -/
def State.construct (c : Config) : State where
  cfg         := c
  sel         := false
  cardType    := none
  uid         := []
  txBuf       := Vector.replicate 2 0x00
  rxBuf       := Vector.replicate 15 0x00
  rxCnt       := 0
  frame       := none
  fwid        := none
  found       := none
  phase       := .idle
  session     := false
  current     := none
  outcome     := none
  operand     := []
  program     := []
  overlapping := []
  results     := []
  history     := []
  writes      := .free
  reads       := .free
  levels      := .free
  freeDraws   := 0
  cancels     := .free

/-- R41, R241: the block right after reset. -/
def State.reset : State := State.construct Config.chosen

end Sys2Proof.Machine
end

