-- ==== Sys2Proof/Machine/Operands.lean ====
section
/-! DEFINITION. The operand forms: byte sequences, the buffers they are kept in, and their renderings as text
(spec/00_scope.md R11, spec/30_encoding.md R26, R94, R95). -/

namespace Sys2Proof.Machine

/-- R11: `slice(s, start, count)`, defined where `start + count ≤ len(s)`. -/
def slice (s : List Byte) (start count : Nat) : List Byte := (s.drop start).take count

/-- Byte registers 0, 1, … loaded from a byte sequence, as many as there are bytes; the rest as they were. -/
def loadRegs {n : Nat} (old : Vector Byte n) (bytes : List Byte) : Vector Byte n :=
  ⟨⟨bytes.take n ++ old.toArray.toList.drop bytes.length⟩, by simp; omega⟩

/-- The first `count` byte registers as a sequence. -/
def readRegs {n : Nat} (regs : Vector Byte n) (count : Nat) : List Byte := regs.toArray.toList.take count

/-- The bytes the last read returned, `RXBUF[0 .. RXCNT-1]` (R31). -/
def State.rxBytes (s : State) : List Byte := readRegs s.rxBuf s.rxCnt

/-- UIDLEN (R23). -/
def State.uidLen (s : State) : Nat := s.uid.length

/-- The frame in TXBUF. -/
def State.txBytes (s : State) : List Byte := s.txBuf.toArray.toList

/-- R94: one hexadecimal digit, upper case. -/
def hexDigit (n : BitVec 4) : Nat := if n.toNat ≤ 9 then 0x30 + n.toNat else 0x41 + (n.toNat - 10)

/-- R94: `hex2(b)`, the high nibble first. -/
def hex2 (b : Byte) : Text := [hexDigit (b.extractLsb' 4 4), hexDigit (b.extractLsb' 0 4)]

/-- R146: each byte as two digits, in array order. -/
def hexText (bytes : List Byte) : Text := bytes.flatMap hex2

/-- A decimal digit's character code. -/
def decDigit (n : Nat) : Nat := 0x30 + n

/-- R95: `dec(b)`, no leading zeros and no padding (R92 (e): hundreds, tens, units). -/
def dec (b : Byte) : Text :=
  let n := b.toNat
  if n < 10 then [decDigit n]
  else if n < 100 then [decDigit (n / 10), decDigit (n % 10)]
  else [decDigit (n / 100), decDigit (n % 100 / 10), decDigit (n % 10)]

/-- R95: `chars(s)`, character code = byte value. -/
def chars (bytes : List Byte) : Text := bytes.map BitVec.toNat

/-- R26: the CardType enumeration, a view of the raw type byte. -/
inductive CardType where
  | code01
  | code02
  | code03
  | code04
  | code05
  | code06
  | code0A
  | unknown (code : Byte)
deriving DecidableEq, Repr

/-- R26, R91. -/
def cardTypeOf (code : Byte) : CardType :=
  match code.toNat with
  | 0x01 => .code01
  | 0x02 => .code02
  | 0x03 => .code03
  | 0x04 => .code04
  | 0x05 => .code05
  | 0x06 => .code06
  | 0x0A => .code0A
  | _ => .unknown code

/-- "mifare 1k, 4byte UID" (R148). -/
def typeName01 : Text :=
  text ['m', 'i', 'f', 'a', 'r', 'e', ' ', '1', 'k', ',', ' ', '4', 'b', 'y', 't', 'e', ' ', 'U', 'I', 'D']

/-- "other" (R148). -/
def typeNameOther : Text := text ['o', 't', 'h', 'e', 'r']

/-- "unknown:" (R147). -/
def unknownHead : Text := text ['u', 'n', 'k', 'n', 'o', 'w', 'n', ':']

/-- R147, R148: the type name table; five entries are configuration. -/
def nameOf (cfg : Config) (code : Byte) : Text :=
  match cardTypeOf code with
  | .code01 => typeName01
  | .code02 => cfg.typeName02
  | .code03 => cfg.typeName03
  | .code04 => cfg.typeName04
  | .code05 => cfg.typeName05
  | .code06 => cfg.typeName06
  | .code0A => typeNameOther
  | .unknown c => unknownHead ++ dec c

end Sys2Proof.Machine
end

