-- ==== Sys2Proof/Machine/Flags.lean ====
section
/-! DEFINITION. The status the block computes: BUSY (spec/10_state.md R35), the flag SEL with the TagRecord it
guards (R21 to R25), the validator's verdict (spec/41_version_validator.md R130) and the result kinds with
their codes (spec/30_encoding.md R98). The block has no arithmetic flags (R37). -/

namespace Sys2Proof.Machine

/-- R35: `BUSY = (PHASE != IDLE)`. -/
def State.busy (s : State) : Bool := decide (s.phase ≠ .idle)

/-- R24: *cleared* is `SEL = 0`, the card type unset, `UIDLEN = 0`. -/
def State.clearRecord (s : State) : State := { s with sel := false, cardType := none, uid := [] }

/-- R140: the TagRecord set from a select response. -/
def State.setRecord (cardType : Byte) (uid : List Byte) (s : State) : State :=
  { s with sel := true, cardType := some cardType, uid := uid }

/-- R130: the verdict on a byte sequence; an empty one is malformed. -/
def verdictOf : List Byte → Except ErrorKind Verdict
  | [] => .error .malformedFrame
  | b :: _ =>
    if b = magic then .ok .recognizedOk
    else if b = magicCorrupt then .ok .clockSpeedCorruption
    else .ok .unrecognizedDevice

/-- R200: the eight result kinds. -/
inductive Kind where
  | ok
  | noTag
  | ioError
  | malformedFrame
  | unrecognizedDevice
  | clockSpeedCorruption
  | cancelled
  | refused
deriving DecidableEq, Repr

/-- R98: the 3-bit codes. -/
def Kind.code : Kind → BitVec 3
  | .ok => 0
  | .noTag => 1
  | .ioError => 2
  | .malformedFrame => 3
  | .unrecognizedDevice => 4
  | .clockSpeedCorruption => 5
  | .cancelled => 6
  | .refused => 7

/-- R208: the kind an error reports. -/
def ErrorKind.kind : ErrorKind → Kind
  | .ioError => .ioError
  | .malformedFrame => .malformedFrame
  | .cancelled => .cancelled
  | .refused => .refused

/-- R98: the kind a verdict puts in the diagnostic field, UnrecognizedDevice 4 and ClockSpeedCorruption 5. For
RecognizedOk R98 gives no code: that the field then carries OK, 0, is a DESIGN CHOICE (assumption 17). -/
def Verdict.kind : Verdict → Kind
  | .recognizedOk => .ok
  | .unrecognizedDevice => .unrecognizedDevice
  | .clockSpeedCorruption => .clockSpeedCorruption

/-- R98, R208: the kind of a result. `NoTag` has a code of its own though it is no error. -/
def Result.kind : Result → Kind
  | .ok .noTag => .noTag
  | .ok .done => .ok
  | .ok (.bytes _) => .ok
  | .ok (.frame _) => .ok
  | .ok (.verdict _) => .ok
  | .ok (.selected _ _) => .ok
  | .ok (.firmware _ _) => .ok
  | .ok (.text _) => .ok
  | .ok (.cardType _) => .ok
  | .ok (.present _) => .ok
  | .err e => e.kind

/-- R98: the diagnostic field of a result, which only VALIDATE and GET_FIRMWARE fill. -/
def Result.diagnostic : Result → Option Kind
  | .ok (.verdict v) => some v.kind
  | .ok (.firmware _ v) => some v.kind
  | .ok .noTag => none
  | .ok .done => none
  | .ok (.bytes _) => none
  | .ok (.frame _) => none
  | .ok (.selected _ _) => none
  | .ok (.text _) => none
  | .ok (.cardType _) => none
  | .ok (.present _) => none
  | .err _ => none

end Sys2Proof.Machine
end

