-- ==== Sys2Proof/Machine/Ops.lean ====
section
/-! DEFINITION. The operations every meaning is written in: the four primitives by which the block touches
the world (spec/20_memory.md R55, R56, R62, R66), the cancel input, the exchange (R71), how an operation
starts, returns its result, ends with an error (spec/60_exceptions.md R215) and is refused (R207). -/

namespace Sys2Proof.Machine

/-! ### Answers -/

/-- The next answer: the first laid down, or a free draw. -/
def Script.next {α : Type} (free : Nat → α) (p : Script α) : α :=
  match p.scripted with
  | a :: _ => a
  | [] => free p.drawn

/-- The answers left after one was asked for. -/
def Script.advance {α : Type} (p : Script α) : Script α :=
  match p.scripted with
  | _ :: rest => { p with scripted := rest }
  | [] => { p with drawn := p.drawn + 1 }

/-- What the transport answers to the next write (R55). -/
def State.writeAnswer (s : State) : WriteAnswer := s.writes.next Config.freeWrite

/-- What the transport answers to the next read: at most MAXFRAME bytes (R56). -/
def State.readAnswer (s : State) : ReadAnswer :=
  match s.reads.next Config.freeRead with
  | .ioError => .ioError
  | .bytes raw => .bytes (raw.take maxFrame)

/-- What the pin answers to the next level read (R66). -/
def State.levelAnswer (s : State) : Level := s.levels.next Config.freeLevel

/-- The value CANCEL has when it is next sampled (R42). -/
def State.cancelAnswer (s : State) : Bool := s.cancels.next Config.freeCancel

/-! ### Primitives -/

def State.emit (e : Event) (s : State) : State := { s with history := s.history ++ [e] }

/-- R55: hand TXBUF to the transport for DEV_ADDR. The session is opened (R67). -/
def State.busWrite (s : State) : State :=
  { s with writes := s.writes.advance, session := true,
           history := s.history ++ [.write s.cfg.devAddr s.txBytes] }

/-- R56: ask the transport for up to MAXFRAME bytes from DEV_ADDR. -/
def State.busRead (s : State) : State :=
  { s with reads := s.reads.advance, history := s.history ++ [.read s.cfg.devAddr maxFrame] }

/-- R66: read the level of PIN. -/
def State.pinRead (s : State) : State :=
  { s with levels := s.levels.advance, history := s.history ++ [.level s.cfg.pin] }

/-- R42: sample CANCEL. No event (R40 lists none for it). -/
def State.cancelSample (s : State) : State := { s with cancels := s.cancels.advance }

/-- R62: let at least `ms` milliseconds pass. -/
def State.delay (ms : Nat) (s : State) : State := s.emit (.delay ms)

/-- R67: no session is left open after the exchange. -/
def State.closeSession (s : State) : State := { s with session := false }

/-- R110: the command frame of a command code. -/
def commandFrame (cmd : Byte) : List Byte := [cmdLen, cmd]

/-- R71 line 1: `TXBUF <- ENCODE_COMMAND(cmd)`. -/
def State.loadCommand (cmd : Byte) (s : State) : State := { s with txBuf := loadRegs s.txBuf (commandFrame cmd) }

/-- R71: `RXBUF <- r ; RXCNT <- len(r)`. `RXBUF[i]` is defined only for `i < RXCNT` (R31); the rest is free. -/
def State.storeResponse (raw : List Byte) (s : State) : State :=
  { s with rxBuf := loadRegs (Config.freeRxBuf s.freeDraws) raw, rxCnt := raw.length,
           freeDraws := s.freeDraws + 1 }

/-- R214: RXBUF after an error of an exchange, or of the fields it read, is unspecified (assumptions 5 and 6). -/
def State.loseRxBuf (s : State) : State :=
  { s with rxBuf := Config.freeRxBuf s.freeDraws, freeDraws := s.freeDraws + 1 }

/-! ### Starting and ending an operation -/

/-- R33, R256: the result is handed to the host, PHASE goes through DONE to IDLE, and the transient state
ends (R20 (c), R32, R38). -/
def State.deliver (r : Result) (s : State) : State :=
  { s with results := s.results ++ [⟨s.history.length, r⟩], phase := .idle, current := none, outcome := none,
           frame := none, fwid := none, found := none }

/-- R215, error entry: the session is closed, the error kind is returned, PHASE goes to IDLE. The state
writes an operation's rule lists for the error are made before. There is nothing to return from (R216). -/
def State.raiseError (e : ErrorKind) (s : State) : State := s.closeSession.deliver (.err e)

/-- R207: `Err(Refused)` to the host and nothing else. -/
def State.refuse (s : State) : State :=
  { s with results := s.results ++ [⟨s.history.length, .err .refused⟩] }

/-- R212 item 1: an operation is started only when the block is idle, and refused before anything else
when it is busy. -/
def whenIdle (s : State) (run : State → State) : Host.Outcome State Fault Refusal :=
  .next (if s.busy then s.refuse else run s)

/-- The end of an operation that has its result, error or not. -/
def State.conclude (r : Except ErrorKind Value) (s : State) : State :=
  match r with
  | .ok v => s.deliver (.ok v)
  | .error e => s.raiseError e

/-! ### The codec's checks and the exchange -/

/-- R111: the four causes are not told apart in the result. -/
def parseFrame (raw : List Byte) (minLen : Nat) : Except ErrorKind ResponseFrame :=
  match decodeResponse raw minLen with
  | .ok f => .ok f
  | .error _ => .error .malformedFrame

/-- R71: one write, one delay of 50 ms and one read, or the part of it before a failure. -/
def exchange (cmd : Byte) (minLen : Nat) (s : State) : Except ErrorKind ResponseFrame × State :=
  let s := s.loadCommand cmd
  match s.writeAnswer with
  | .ioError => (.error .ioError, s.busWrite.closeSession.loseRxBuf)
  | .ok =>
    let s := s.busWrite.delay tTurnaround
    match s.readAnswer with
    | .ioError => (.error .ioError, s.busRead.closeSession.loseRxBuf)
    | .bytes raw =>
      let s := (s.busRead.storeResponse raw).closeSession
      match parseFrame s.rxBytes minLen with
      | .ok f => (.ok f, s)
      | .error e => (.error e, s.loseRxBuf)

end Sys2Proof.Machine
end

