-- ==== Sys2Proof/Machine/Codec.lean ====
section
/-! DEFINITION. The Frame Codec operations (spec/40_frame_codec.md), the Version Validator operation
(spec/41_version_validator.md) and the unassigned codes (spec/30_encoding.md R97). -/

namespace Sys2Proof.Machine

/-- R110, ENCODE_COMMAND(cmd). -/
def execEncodeCommand (cmd : Byte) (s : State) : Host.Outcome State Fault Refusal :=
  whenIdle s fun s => s.deliver (.ok (.bytes (commandFrame cmd)))

/-- R111, DECODE_FRAME(raw, minLen); `raw` stands on the operand lines. The buffers are untouched (R112). -/
def execDecodeFrame (minLen : Byte) (s : State) : Host.Outcome State Fault Refusal :=
  whenIdle s fun s => s.conclude ((parseFrame s.operand minLen.toNat).map Value.frame)

/-- R130, VALIDATE(bytes); `bytes` stands on the operand lines. -/
def execValidate (s : State) : Host.Outcome State Fault Refusal :=
  whenIdle s fun s => s.conclude ((verdictOf s.operand).map Value.verdict)

/-- R97, R207 (b): operation code 0xE is refused. -/
def execUnassignedE (s : State) : Host.Outcome State Fault Refusal := .next s.refuse

/-- R97, R207 (b): operation code 0xF is refused. -/
def execUnassignedF (s : State) : Host.Outcome State Fault Refusal := .next s.refuse

end Sys2Proof.Machine
end

