-- ==== Sys2Proof/Machine/Session.lean ====
section
/-! DEFINITION. The Tag Session operations (spec/42_tag_session.md). -/

namespace Sys2Proof.Machine

/-- R140, the select as SELECT_TAG and every ProtocolPolled poll run it. It reads neither SEL nor the record
(R149), and writes the record on every completion (R25). -/
def selectTag (s : State) : Except ErrorKind SelectResult × State :=
  match exchange s.cfg.cmdSelectMifare minLenSelect s with
  | (.error e, s) => (.error e, s.clearRecord)
  | (.ok f, s) =>
    let l := f.length.toNat
    if s.rxBytes[2]? ≠ some statusOk then (.ok .noTag, s.clearRecord)
    else if l < 3 then (.error .malformedFrame, s.clearRecord.loseRxBuf)
    else match s.rxBytes[l]? with
      | none => (.error .malformedFrame, s.clearRecord.loseRxBuf)
      | some cardType =>
        let uid := slice s.rxBytes 3 (l - 3)
        (.ok (.selected cardType uid), s.setRecord cardType uid)

/-- R140, SELECT_TAG(). -/
def execSelectTag (s : State) : Host.Outcome State Fault Refusal :=
  whenIdle s fun s => (selectTag s).2.conclude ((selectTag s).1.map SelectResult.value)

/-- R141: the exchange, the identifier behind the reserved byte, and the validator's verdict on it. -/
def readFirmware (s : State) : Except ErrorKind Value × State :=
  match exchange s.cfg.cmdGetFirmware minLenFirmware s with
  | (.error e, s) => (.error e, s)
  | (.ok f, s) =>
    let fwid := slice s.rxBytes 3 (f.length.toNat - 2)
    match verdictOf fwid with
    | .error e => (.error e, s.loseRxBuf)
    | .ok v => (.ok (.firmware (chars fwid) v), s)

/-- R141, GET_FIRMWARE(). The record is not written (R25). -/
def execGetFirmware (s : State) : Host.Outcome State Fault Refusal :=
  whenIdle s fun s => (readFirmware s).2.conclude (readFirmware s).1

/-- R142, DESELECT(): a local clear, no bus event (assumption 8). -/
def execDeselect (s : State) : Host.Outcome State Fault Refusal :=
  whenIdle s fun s => s.clearRecord.deliver (.ok .done)

/-- R143: the UID, empty when Idle. -/
def currentUid (s : State) : List Byte := if s.sel then slice s.uid 0 s.uidLen else []

/-- R143, GET_UID(). -/
def execGetUid (s : State) : Host.Outcome State Fault Refusal :=
  whenIdle s fun s => s.deliver (.ok (.bytes (currentUid s)))

/-- R144, GET_UID_HEX() = UID_TO_HEX(GET_UID()). -/
def execGetUidHex (s : State) : Host.Outcome State Fault Refusal :=
  whenIdle s fun s => s.deliver (.ok (.text (hexText (currentUid s))))

/-- R145, GET_TYPE(). -/
def execGetType (s : State) : Host.Outcome State Fault Refusal :=
  whenIdle s fun s => s.deliver (.ok (.cardType (if s.sel then s.cardType else none)))

/-- R146, UID_TO_HEX(uid); `uid` stands on the operand lines. -/
def execUidToHex (s : State) : Host.Outcome State Fault Refusal :=
  whenIdle s fun s => s.deliver (.ok (.text (hexText s.operand)))

/-- R147, TYPE_NAME(code). -/
def execTypeName (code : Byte) (s : State) : Host.Outcome State Fault Refusal :=
  whenIdle s fun s => s.deliver (.ok (.text (nameOf s.cfg code)))

end Sys2Proof.Machine
end

