-- ==== Sys2Proof/Machine/Presence.lean ====
section
/-! DEFINITION. The Presence Detector operations (spec/43_presence_detector.md). -/

namespace Sys2Proof.Machine

/-- R66, R180: active low. -/
def presentAt (l : Level) : Bool := decide (l = .low)

/-- R180: "presence is defined as 'select succeeds'"; an error stays an error (assumption 9). -/
def presenceOf (r : Except ErrorKind SelectResult) : Except ErrorKind Bool :=
  match r with
  | .error e => .error e
  | .ok (.selected _ _) => .ok true
  | .ok .noTag => .ok false

/-- R180: one poll. -/
def pollPresence (s : State) : Except ErrorKind Bool × State :=
  match s.cfg.mode with
  | .pinSensed => (.ok (presentAt s.levelAnswer), s.pinRead)
  | .protocolPolled => (presenceOf (selectTag s).1, (selectTag s).2)

/-- R180, IS_PRESENT(). -/
def execIsPresent (s : State) : Host.Outcome State Fault Refusal :=
  whenIdle s fun s => (pollPresence s).2.conclude ((pollPresence s).1.map Value.present)

/-- The poll interval comes last in an iteration; the sequencer then stands at POLL again, busy, with `me`
in progress (R34). -/
def State.keepWaiting (me : Instr) (interval : Nat) (s : State) : State :=
  { s.delay interval with phase := .poll, current := some me }

/-- R181, R182: one iteration of a wait loop. CANCEL is looked at first and only here (R211). A cancelled wait has
not failed in an exchange, so RXBUF is as the polls so far left it (R206); that it is no free value although R214
calls it unspecified after an error is a DESIGN CHOICE (assumption 6). -/
def waitIteration (me : Instr) (wanted : Bool) (interval : Nat) (s : State) : State :=
  if s.cancelAnswer then s.cancelSample.raiseError .cancelled
  else
    match pollPresence s.cancelSample with
    | (.error e, s) => s.raiseError e
    | (.ok present, s) => if present = wanted then s.deliver (.ok .done) else s.keepWaiting me interval

/-- R181, WAIT_UNTIL_PRESENT(): the first iteration. While it is not satisfied the operation stays in
progress and the following steps go on with it (R185: there is no bound). -/
def execWaitUntilPresent (s : State) : Host.Outcome State Fault Refusal :=
  whenIdle s fun s => waitIteration .waitUntilPresent true tPollPresent s

/-- R182, WAIT_UNTIL_ABSENT(): the first iteration, as for WAIT_UNTIL_PRESENT. -/
def execWaitUntilAbsent (s : State) : Host.Outcome State Fault Refusal :=
  whenIdle s fun s => waitIteration .waitUntilAbsent false tPollAbsent s

end Sys2Proof.Machine
end

