-- ==== Sys2Proof/Machine/Wire.lean ====
section
/-! DEFINITION. The frames of the wire (spec/30_encoding.md R82 to R89), each with what the block does when
it meets that frame in the phase it belongs to (spec/10_state.md R34): ENCODE builds a command frame, TX_WRITE
sends one of the two the block sends, DECODE takes a response frame and extracts the fields of a select or of a
firmware response from it. These are the sequencer's own moves; the host cannot present them (assumption 11).
Before them, what COMMIT and VALIDATE do with the fields. -/

namespace Sys2Proof.Machine

/-! ### How a phase hands over to the next (R34) -/

/-- R34: where an error of the exchange leads: COMMIT, where a select clears the record; in GET_FIRMWARE, which
has no record to write, DONE. -/
def phaseAfterError : Option Instr → Phase
  | some .getFirmware => .done
  | _ => .commit

/-- R34: an error of the exchange, kept for DONE. -/
def State.failExchange (e : ErrorKind) (s : State) : State :=
  { s.loseRxBuf with session := false, outcome := some (.err e), phase := phaseAfterError s.current }

/-- The TX_WRITE phase: the frame of `cmd` goes out; TURNAROUND follows a write that was acknowledged. -/
def State.sendCommand (cmd : Byte) (s : State) : State :=
  let s := s.loadCommand cmd
  match s.writeAnswer with
  | .ok => { s.busWrite with phase := .turnaround }
  | .ioError => s.busWrite.failExchange .ioError

/-- The result is known: DONE hands it over. -/
def State.endWith (r : Result) (s : State) : State := { s with outcome := some r, phase := .done }

/-- A payload or an error as a result (R13). -/
def resultOf (r : Except ErrorKind Value) : Result :=
  match r with
  | .ok v => .ok v
  | .error e => .err e

/-- The end of a poll inside a wait (R181, R182): the wanted presence or an error ends the wait, anything
else goes to POLL_WAIT. -/
def State.afterPoll (wanted : Bool) (p : Except ErrorKind Bool) (s : State) : State :=
  match p with
  | .error e => s.endWith (.err e)
  | .ok present =>
    if present = wanted then s.endWith (.ok .done)
    else { s with frame := none, found := none, outcome := none, phase := .pollWait }

/-- COMMIT: the record is set or cleared (R140), and what follows is the business of the operation that ran
the select. -/
def State.commitSelect (r : Except ErrorKind SelectResult) (s : State) : State :=
  let s := match r with
    | .ok (.selected cardType uid) => s.setRecord cardType uid
    | .ok .noTag => s.clearRecord
    | .error _ => s.clearRecord
  match s.current with
  | some .isPresent => s.endWith (resultOf ((presenceOf r).map Value.present))
  | some .waitUntilPresent => s.afterPoll true (presenceOf r)
  | some .waitUntilAbsent => s.afterPoll false (presenceOf r)
  | _ => s.endWith (resultOf (r.map SelectResult.value))

/-- R89, R141: what the validator makes of FWID. -/
def firmwareOutcome (fwid : List Byte) : Except ErrorKind Value :=
  (verdictOf fwid).map (Value.firmware (chars fwid))

/-- VALIDATE: the verdict on FWID; an empty one is malformed (R38, R141) and leaves no view, RXBUF being
unspecified (R214). -/
def State.judge (fwid : List Byte) (s : State) : State :=
  match firmwareOutcome fwid with
  | .error e => State.endWith (.err e) { s.loseRxBuf with frame := none }
  | .ok v => s.endWith (.ok v)

/-! ### The six rows -/

/-- R82: ENCODE, TXBUF takes the frame. -/
def execCmdFrame (cmd : Byte) (s : State) : Host.Outcome State Fault Refusal :=
  .next { s.loadCommand cmd with phase := .txWrite }

/-- R83: TX_WRITE of `[0x01, CMD_SELECT_MIFARE]`. -/
def execCmdFrameSelectMifare (s : State) : Host.Outcome State Fault Refusal :=
  .next (s.sendCommand s.cfg.cmdSelectMifare)

/-- R83: TX_WRITE of `[0x01, CMD_GET_FIRMWARE]`. -/
def execCmdFrameGetFirmware (s : State) : Host.Outcome State Fault Refusal :=
  .next (s.sendCommand s.cfg.cmdGetFirmware)

/-- R84, R32: DECODE of a well-formed response; the view stands, and DECODE goes on with its fields (R33). -/
def execRespFrame (cmd : Byte) (payload : List Byte) (s : State) : Host.Outcome State Fault Refusal :=
  .next { s with frame := some ⟨BitVec.ofNat 8 (payload.length + 1), cmd, payload⟩, phase := .decode }

/-- R87, R90: what a select response says. A non-zero STATUS is NoTag whatever follows; STATUS 0x00 without
a TYPE byte is malformed. -/
def selectOutcome (status : Byte) (uid : List Byte) (type : Option Byte) : Except ErrorKind SelectResult :=
  if status ≠ statusOk then .ok .noTag
  else match type with
    | none => .error .malformedFrame
    | some cardType => .ok (.selected cardType uid)

/-- R86, R33: DECODE of the fields of a select response; COMMIT follows (R34). A malformed one leaves no view,
RXBUF being unspecified (R214). -/
def execRespSelect (cmd status : Byte) (uid : List Byte) (type : Option Byte) (s : State) :
    Host.Outcome State Fault Refusal :=
  match selectOutcome status uid type with
  | .error e => .next (State.failExchange e { s with frame := none, found := none })
  | .ok r =>
    .next { s with
      frame := some ⟨BitVec.ofNat 8 ((selectPayload status uid type).length + 1), cmd,
                     selectPayload status uid type⟩,
      found := some r,
      phase := .commit }

/-- R88, R33, R38: DECODE of the fields of a firmware response; VALIDATE follows (R34). The reserved byte takes
part in nothing. -/
def execRespFirmware (cmd reserved : Byte) (fwid : List Byte) (s : State) : Host.Outcome State Fault Refusal :=
  .next { s with
    frame := some ⟨BitVec.ofNat 8 (fwid.length + 2), cmd, reserved :: fwid⟩,
    fwid := some fwid,
    phase := .validate }

end Sys2Proof.Machine
end

