-- ==== Sys2Proof/Machine/Dispatch.lean ====
section
/-! DEFINITION. One arm per instruction. -/

namespace Sys2Proof.Machine

def exec (i : Instr) (s : State) : Host.Outcome State Fault Refusal :=
  match i with
  | .encodeCommand cmd => Sys2Proof.Machine.execEncodeCommand cmd s
  | .decodeFrame minLen => Sys2Proof.Machine.execDecodeFrame minLen s
  | .validate => Sys2Proof.Machine.execValidate s
  | .selectTag => Sys2Proof.Machine.execSelectTag s
  | .getFirmware => Sys2Proof.Machine.execGetFirmware s
  | .deselect => Sys2Proof.Machine.execDeselect s
  | .getUid => Sys2Proof.Machine.execGetUid s
  | .getUidHex => Sys2Proof.Machine.execGetUidHex s
  | .getType => Sys2Proof.Machine.execGetType s
  | .typeName code => Sys2Proof.Machine.execTypeName code s
  | .uidToHex => Sys2Proof.Machine.execUidToHex s
  | .isPresent => Sys2Proof.Machine.execIsPresent s
  | .waitUntilPresent => Sys2Proof.Machine.execWaitUntilPresent s
  | .waitUntilAbsent => Sys2Proof.Machine.execWaitUntilAbsent s
  | .unassignedE => Sys2Proof.Machine.execUnassignedE s
  | .unassignedF => Sys2Proof.Machine.execUnassignedF s
  | .cmdFrame cmd => Sys2Proof.Machine.execCmdFrame cmd s
  | .cmdFrameSelectMifare => Sys2Proof.Machine.execCmdFrameSelectMifare s
  | .cmdFrameGetFirmware => Sys2Proof.Machine.execCmdFrameGetFirmware s
  | .respFrame cmd payload => Sys2Proof.Machine.execRespFrame cmd payload s
  | .respSelect cmd status uid type => Sys2Proof.Machine.execRespSelect cmd status uid type s
  | .respFirmware cmd reserved fwid => Sys2Proof.Machine.execRespFirmware cmd reserved fwid s

end Sys2Proof.Machine
end

