-- ==== Sys2Proof/Machine/Sequencer.lean ====
section
/-! DEFINITION. The sequencer, phase by phase (spec/10_state.md R33, R34): one move of it for each phase an
operation in progress can stand in. The meanings of the host operations run an operation whole; this is the
same behaviour with a name for every point between two events. -/

namespace Sys2Proof.Machine

/-- The command code the operation in progress sends (R83). -/
def State.commandCode (s : State) : Byte :=
  match s.current with
  | some .getFirmware => s.cfg.cmdGetFirmware
  | _ => s.cfg.cmdSelectMifare

/-- The least number of bytes its read must return (R8). -/
def State.minLen (s : State) : Nat :=
  match s.current with
  | some .getFirmware => minLenFirmware
  | _ => minLenSelect

/-- The row of the frame that TX_WRITE sends (R83). -/
def State.commandRow (s : State) : Instr :=
  match s.current with
  | some .getFirmware => .cmdFrameGetFirmware
  | _ => .cmdFrameSelectMifare

/-- RX_READ: the transport is asked, its bytes are stored, the session ends with the exchange (R67). -/
def State.receive (s : State) : State :=
  match s.readAnswer with
  | .ioError => s.busRead.failExchange .ioError
  | .bytes raw => { (s.busRead.storeResponse raw).closeSession with phase := .decode }

/-- R86, R88: the row of the fields inside a response, by the layout the operation in progress expects. -/
def State.fieldsRow (s : State) (f : ResponseFrame) : Except DecodeError Instr :=
  match s.current with
  | some .getFirmware => firmwareFields f
  | _ => selectFields f

/-- DECODE (R33): DECODE_FRAME on what was read, then the fields of the response. What is no such response is
malformed. -/
def State.decodeRead (s : State) : Host.Outcome State Fault Refusal :=
  match decodeResponse s.rxBytes s.minLen with
  | .error _ => .next (s.failExchange .malformedFrame)
  | .ok f =>
    match s.fieldsRow f, exec (frameFields f) s with
    | .ok i, .next t => exec i t
    | .error _, _ => .next (s.failExchange .malformedFrame)
    | _, o => o

/-- POLL of the two waits: CANCEL, then the pin, or the select phases (R34, R181, R182). -/
def State.pollOnce (wanted : Bool) (s : State) : State :=
  if s.cancelAnswer then s.cancelSample.endWith (.err .cancelled)
  else
    match s.cfg.mode with
    | .pinSensed => s.cancelSample.pinRead.afterPoll wanted (.ok (presentAt s.levelAnswer))
    | .protocolPolled => { s.cancelSample with phase := .encode }

/-- One move of the sequencer. -/
def sequencerStep (s : State) : Host.Outcome State Fault Refusal :=
  match s.phase with
  | .idle => .next s
  | .encode => exec (.cmdFrame s.commandCode) s
  | .txWrite => exec s.commandRow s
  | .turnaround => .next { s.delay tTurnaround with phase := .rxRead }
  | .rxRead => .next s.receive
  | .decode => s.decodeRead
  | .validate =>
    match s.fwid with
    | some id => .next (s.judge id)
    | none => .fault (.sequencerStuck s.phase)
  | .commit =>
    match s.found, s.outcome with
    | some r, _ => .next (s.commitSelect (.ok r))
    | none, some (.err e) => .next (s.commitSelect (.error e))
    | none, _ => .fault (.sequencerStuck s.phase)
  | .poll =>
    match s.current with
    | some .isPresent => .next (s.pinRead.endWith (.ok (.present (presentAt s.levelAnswer))))
    | some .waitUntilPresent => .next (s.pollOnce true)
    | some .waitUntilAbsent => .next (s.pollOnce false)
    | _ => .fault (.sequencerStuck s.phase)
  | .pollWait =>
    match s.current with
    | some .waitUntilPresent => .next { s.delay tPollPresent with phase := .poll }
    | some .waitUntilAbsent => .next { s.delay tPollAbsent with phase := .poll }
    | _ => .fault (.sequencerStuck s.phase)
  | .done =>
    match s.outcome with
    | some r => .next (s.deliver r)
    | none => .fault (.sequencerStuck s.phase)

/-- R34: the first phase of an operation that has phases; the other operations go from IDLE to DONE at once. -/
def firstPhase (mode : PresenceMode) : Instr → Phase
  | .selectTag => .encode
  | .getFirmware => .encode
  | .isPresent =>
    match mode with
    | .pinSensed => .poll
    | .protocolPolled => .encode
  | .waitUntilPresent => .poll
  | .waitUntilAbsent => .poll
  | _ => .done

/-- An operation started and not yet moved on. -/
def State.begin (i : Instr) (s : State) : State :=
  { s with current := some i, phase := firstPhase s.cfg.mode i }

/-- `n` moves of the sequencer. -/
def runPhases : Nat → State → Host.Outcome State Fault Refusal
  | 0, s => .next s
  | n + 1, s =>
    match sequencerStep s with
    | .next t => runPhases n t
    | .fault f => .fault f
    | .refused r => .refused r

end Sys2Proof.Machine
end

