-- ==== Sys2Proof/Machine/Step.lean ====
section
/-! DEFINITION. One step of the machine. The block has no program counter and fetches no instructions
(spec/10_state.md R33, spec/20_memory.md R69): what stands in the place of the fetch is the host port. -/

namespace Sys2Proof.Machine

/-- The operation port takes a request: the word is decoded and the operand lines are set. -/
def State.present (r : Request) (s : State) : State := { s with operand := r.operand }

/-- Idle, the block takes the host's next operation (R101) and runs it; with none presented it stays as it
is (R244: it sends nothing until the host asks). Busy, it refuses an operation presented meanwhile (R207),
and otherwise goes on with the one in progress, phase by phase. -/
def step (s : State) : Host.Outcome State Fault Refusal :=
  match s.phase with
  | .idle =>
    match s.program with
    | [] => .next s
    | r :: rest => exec (decodeOp r.word) (State.present r { s with program := rest })
  | _ =>
    match s.overlapping with
    | r :: rest => exec (decodeOp r.word) { s with overlapping := rest }
    | [] => sequencerStep s

/-- `n` steps, up to the first stop. -/
def runSteps : Nat → State → Host.Outcome State Fault Refusal
  | 0, s => .next s
  | n + 1, s =>
    match step s with
    | .next t => runSteps n t
    | .fault f => .fault f
    | .refused r => .refused r

/-- The word presented as the host's next operation, with empty operand lines, to an idle block. The port has twelve
lines (R97): of a number above 0xFFF, on which R97 says nothing, the low twelve bits are presented. A DESIGN CHOICE
(assumption 11). -/
def State.withFetchWord (s : State) (_nbits w : Nat) : State :=
  { s with phase := .idle, program := ⟨BitVec.ofNat 12 w, []⟩ :: s.program }

end Sys2Proof.Machine
end

