-- ==== Sys2Proof/Safety.lean ====
section
/-! DEFINITION. The words claims about runs are made in: what every state of a run satisfies, and when two
states agree on the tag record. -/

namespace Sys2Proof.Machine

/-- Nothing is in progress and no transient state is left (R20 (c), R41, R216). -/
structure State.Quiet (s : State) : Prop where
  idle      : s.phase = .idle
  noSession : s.session = false
  noCurrent : s.current = none
  noOutcome : s.outcome = none
  noFrame   : s.frame = none
  noFwid    : s.fwid = none
  noFound   : s.found = none

/-- R23, R24: the TagRecord is cleared as a whole when SEL = 0, set as a whole when SEL = 1, and holds at
most eleven UID bytes. -/
structure State.RecordOk (s : State) : Prop where
  cleared : s.sel = false → s.cardType = none ∧ s.uid = []
  set     : s.sel = true → s.cardType ≠ none
  fits    : s.uid.length ≤ uidMax

/-- R63: every Read event is immediately preceded by `Delay(50)`, and that by the Write of a command frame. -/
def ReadsPaced (devAddr : Nat) (h : List Event) : Prop :=
  ∀ k a n, h[k]? = some (.read a n) →
    2 ≤ k ∧ h[k - 1]? = some (.delay tTurnaround) ∧ ∃ cmd, h[k - 2]? = some (.write devAddr [0x01, cmd])

/-- R51, R53, R55, R56, R60, R62, R66, R83: the only events the block ever causes. -/
def LegalEvent (c : Config) : Event → Prop
  | .write a b => a = c.devAddr ∧ (b = [0x01, c.cmdSelectMifare] ∨ b = [0x01, c.cmdGetFirmware])
  | .delay t => t = tTurnaround ∨ t = tPollPresent ∨ t = tPollAbsent
  | .read a n => a = c.devAddr ∧ n = maxFrame
  | .level p => p = c.pin

/-- R34: the operations whose phases run the select exchange. -/
def runsSelect (mode : PresenceMode) : Instr → Bool
  | .selectTag => true
  | .isPresent => decide (mode = .protocolPolled)
  | .waitUntilPresent => decide (mode = .protocolPolled)
  | .waitUntilAbsent => decide (mode = .protocolPolled)
  | _ => false

/-- R34: the phases an operation in progress can stand in. -/
def legalAt (mode : PresenceMode) (p : Phase) (i : Instr) : Bool :=
  match p with
  | .idle => false
  | .encode => runsSelect mode i || decide (i = .getFirmware)
  | .txWrite => runsSelect mode i || decide (i = .getFirmware)
  | .turnaround => runsSelect mode i || decide (i = .getFirmware)
  | .rxRead => runsSelect mode i || decide (i = .getFirmware)
  | .decode => runsSelect mode i || decide (i = .getFirmware)
  | .validate => decide (i = .getFirmware)
  | .commit => runsSelect mode i
  | .poll =>
    decide (i = .waitUntilPresent) || decide (i = .waitUntilAbsent) ||
      (decide (i = .isPresent) && decide (mode = .pinSensed))
  | .pollWait => decide (i = .waitUntilPresent) || decide (i = .waitUntilAbsent)
  | .done =>
    decide (i = .selectTag) || decide (i = .getFirmware) || decide (i = .isPresent) ||
      decide (i = .waitUntilPresent) || decide (i = .waitUntilAbsent)

/-- R34: the moves of the sequencer, from phase to phase. -/
def nextPhases (mode : PresenceMode) (i : Instr) : Phase → List Phase
  | .idle => []
  | .encode => [.txWrite]
  | .txWrite => [.turnaround, if i = .getFirmware then .done else .commit]
  | .turnaround => [.rxRead]
  | .rxRead => [.decode, if i = .getFirmware then .done else .commit]
  | .decode => if i = .getFirmware then [.validate, .done] else [.commit]
  | .validate => [.done]
  | .commit => if i = .waitUntilPresent ∨ i = .waitUntilAbsent then [.done, .pollWait] else [.done]
  | .poll =>
    if i = .isPresent then [.done]
    else match mode with
      | .pinSensed => [.done, .pollWait]
      | .protocolPolled => [.done, .encode]
  | .pollWait => [.poll]
  | .done => [.idle]

/-- R86, R87, R90: what a frame says when a select reads it. -/
def selectReading (f : ResponseFrame) : Except ErrorKind SelectResult :=
  match f.payload with
  | [] => .error .malformedFrame
  | status :: rest => selectOutcome status rest.dropLast rest.getLast?

/-- What holds at reset and after every step. -/
structure State.Inv (s : State) : Prop where
  record    : s.RecordOk
  /-- R31 -/
  rxFits    : s.rxCnt ≤ maxFrame
  /-- R63 -/
  paced     : ReadsPaced s.cfg.devAddr s.history
  legal     : ∀ e ∈ s.history, LegalEvent s.cfg e
  /-- R33: an operation is in progress exactly when the block is busy. -/
  atRest    : s.phase = .idle ↔ s.current = none
  /-- R34 -/
  position  : ∀ i, s.current = some i → legalAt s.cfg.mode s.phase i = true
  /-- R39, R67: a session is open only between the write and the read of an exchange. -/
  session   : s.session = true ↔ s.phase = .turnaround ∨ s.phase = .rxRead
  outcome   : s.outcome ≠ none → s.phase = .commit ∨ s.phase = .done
  finished  : s.phase = .done → s.outcome ≠ none
  /-- R32: the view is the parse of RXBUF, and lives only while it is looked into. -/
  view      : ∀ f, s.frame = some f → decodeResponse s.rxBytes 0 = .ok f ∧
                (s.phase = .validate ∨ s.phase = .commit ∨ s.phase = .done)
  validates : s.phase = .validate → s.frame ≠ none ∧ s.fwid ≠ none
  commits   : s.phase = .commit →
                (∃ e, s.outcome = some (.err e)) ∧ s.found = none ∨ s.outcome = none ∧ s.found ≠ none
  /-- R38, R88: FWID exists only inside GET_FIRMWARE, from DECODE to DONE, has at most twelve bytes and is what
  stands behind the reserved byte of the view. -/
  fwid      : ∀ id, s.fwid = some id →
                (s.phase = .validate ∨ s.phase = .done) ∧ s.current = some .getFirmware ∧ id.length ≤ fwMax ∧
                (∀ f, s.frame = some f → f.payload.tail = id)
  /-- R86, R87: what a select found is what its view says, and lives only until the select is committed. -/
  found     : ∀ r, s.found = some r → (s.phase = .commit ∨ s.phase = .done) ∧
                ∃ f, s.frame = some f ∧ selectReading f = .ok r
  /-- R30, R83 -/
  sending   : s.phase = .txWrite → s.txBytes = [0x01, s.commandCode]
  sent      : s.phase = .turnaround →
                ∃ h, s.history = h ++ [.write s.cfg.devAddr [0x01, s.commandCode]]
  reading   : s.phase = .rxRead →
                ∃ h, s.history = h ++ [.write s.cfg.devAddr [0x01, s.commandCode], .delay tTurnaround]

/-- The two states hold the same Tag Session state: SEL, CARDTYPE and the UID with its length (R20 (a)). -/
def State.SameRecord (s t : State) : Prop :=
  t.sel = s.sel ∧ t.cardType = s.cardType ∧ t.uid = s.uid

/-- R24: the record reads as *cleared*. -/
def State.Cleared (s : State) : Prop := s.sel = false ∧ s.cardType = none ∧ s.uid = []

/-- `s` in a block constructed with the other MODE (R29), all else the same. -/
def State.withMode (m : PresenceMode) (s : State) : State := { s with cfg := { s.cfg with mode := m } }

/-- `s` with one more result handed to the host (R13) and nothing else changed. -/
def State.withResult (r : Result) (s : State) : State :=
  { s with results := s.results ++ [⟨s.history.length, r⟩] }

/-- `s` after the write of an exchange (R71): the frame is in TXBUF, one Write event, one answer used. -/
def State.afterWrite (cmd : Byte) (s : State) : State :=
  { s with txBuf := #v[0x01, cmd], writes := s.writes.advance,
           history := s.history ++ [.write s.cfg.devAddr [0x01, cmd]] }

/-- `s` after the read of an exchange was asked for (R71): Write, Delay(50) and Read, two answers used. -/
def State.afterAsking (cmd : Byte) (s : State) : State :=
  { s with txBuf := #v[0x01, cmd], writes := s.writes.advance, reads := s.reads.advance,
           history := s.history ++
             [.write s.cfg.devAddr [0x01, cmd], .delay 50, .read s.cfg.devAddr 15] }

/-- `s` after an exchange whose read returned `raw` (R71): as above, and RXBUF and RXCNT hold the read. What
RXBUF holds above the read is free (R31). -/
def State.afterRead (cmd : Byte) (raw : List Byte) (s : State) : State :=
  (s.afterAsking cmd).storeResponse raw

end Sys2Proof.Machine
end

