-- ==== Sys2Proof/Certificates/Slice0/Obligations.lean ====
section
/-! DEFINITION. The statements about the block, each a `def Obligations.<Name> : Prop`. "D<n>" is a decision of
spec/92_eei_decisions.md: a statement that rests on one says so, for the source does not settle it. Where a next
state is written out whole, what TXBUF and RXBUF still hold once the operation is over (U13) is the model's choice,
assumption 6. -/

open Sys2Proof Sys2Proof.Machine

/-! ### Encoding -/

/-- Every well-formed instruction is what its own bits decode to, at the port its bits stand at: no field of
an operation word (R97, the model's numbers by D2) or of a frame (R82, R84, R86, R88) is dropped. -/
def Obligations.EncodedInstructionsDecodeToThemselves : Prop :=
  ∀ (cfg : Config) (i : Instr), i.wellFormed = true → decode cfg i.port (encode cfg i) = .ok i

/-- R97 (D2), the other way round: an operation word is its operation's own encoding, but for the ARG bits of
the operations that ignore them. -/
def Obligations.OperationWordsAreEncodings : Prop :=
  ∀ (cfg : Config) (w : BitVec 12),
    encode cfg (decodeOp w) =
      .word (if opField w = 0x0 ∨ opField w = 0x1 ∨ opField w = 0x9 then w else opWord (opField w) 0x00)

/-- Words and frames written out from the spec's tables (R97 by D2; R82, R86, R88). -/
def Obligations.WrittenOutBitsDecode : Prop :=
  decodeOp 0b000011110000#12 = .encodeCommand 0xF0 ∧
  decodeOp 0b000100000011#12 = .decodeFrame 3 ∧
  decodeOp 0b001100000000#12 = .selectTag ∧
  decodeOp 0b100101111111#12 = .typeName 0x7F ∧
  decodeOp 0b110111111111#12 = .waitUntilAbsent ∧
  (∀ cfg, decode cfg .command (.frame [0b00000001, 0b11110000]) = .ok (.cmdFrame 0xF0)) ∧
  (∀ cfg, decode cfg .selectResponse (.frame [0x05, 0x01, 0x00, 0xAA, 0xBB, 0x01]) =
    .ok (.respSelect 0x01 0x00 [0xAA, 0xBB] (some 0x01))) ∧
  (∀ cfg, decode cfg .firmwareResponse (.frame [0x04, 0xF0, 0x7E, 0x53, 0x4C]) =
    .ok (.respFirmware 0xF0 0x7E [0x53, 0x4C]))

/-- R84: a response is well-formed for `minLen` exactly when the four checks hold, and then its fields are
LEN = byte 0, CMD = byte 1 and the LEN - 1 bytes from index 2 on. -/
def Obligations.WellFormedResponsesAreTheCheckedOnes : Prop :=
  ∀ (raw : List Byte) (minLen : Nat) (f : ResponseFrame),
    decodeResponse raw minLen = .ok f ↔
      minLen ≤ raw.length ∧ 1 ≤ raw.length ∧ 2 ≤ f.length.toNat ∧ f.length.toNat + 1 ≤ raw.length ∧
      raw[0]? = some f.length ∧ raw[1]? = some f.command ∧ f.payload = slice raw 2 (f.length.toNat - 1)

/-- R111 (corner case) and C5: whatever else a read of at most 15 bytes holds, a length byte with bit 7 set is
malformed, so the all-bytes corruption never reaches the validator. -/
def Obligations.LengthByteWithBitSevenIsMalformed : Prop :=
  ∀ (len : Byte) (rest : List Byte) (minLen : Nat), rest.length + 1 ≤ 15 → len.msb = true →
    parseFrame (len :: rest) minLen = .error .malformedFrame

/-! ### Reset -/

/-- R41, R241 (D4): what construction leaves, for every configuration. -/
def Obligations.ConstructionLeavesAnIdleClearedBlock : Prop :=
  (∀ c : Config,
    (State.construct c).Quiet ∧ (State.construct c).Cleared ∧ (State.construct c).cfg = c ∧
    (State.construct c).rxCnt = 0 ∧ (State.construct c).busy = false ∧
    (State.construct c).history = [] ∧ (State.construct c).results = []) ∧
  State.reset = State.construct Config.chosen

/-- The invariant holds of a newly constructed block, whatever its configuration. -/
def Obligations.ConstructionMeetsTheInvariant : Prop := ∀ c : Config, (State.construct c).Inv

/-! ### The step -/

/-- Every step keeps the invariant: the record is whole (R23, R24), buffers, view and extracted fields agree (R31,
R32, R38), the phase is legal for the operation in progress (R34), sessions stay inside exchanges (R67), and every read
ever made was preceded by its write and its 50 ms (R63). -/
def Obligations.StepKeepsTheInvariant : Prop :=
  ∀ s t : State, s.Inv → step s = .next t → t.Inv

/-- From a state of the invariant the block never stops: whatever is presented and whatever is answered, there is a
next state, and it meets the invariant again. That an operation presented while the block is busy has a step, a refusal,
is the choice of D20 (assumption 7; R35 and R207 allow no step at all as well), and that the step of an idle block, a
whole operation, returns takes for granted that every delay and every call ends (assumption 24, D12). -/
def Obligations.StepNeverStops : Prop :=
  ∀ s : State, s.Inv → ∃ t, step s = .next t ∧ t.Inv

/-- What a step is. R101, R69: an idle block takes the host's next operation, its operand with it, and runs it. The
rest is the model's choice: that this one step runs the whole operation, or the first iteration of a wait, and that a
busy block then makes one phase move a step (assumption 4, R34 by D5); that an operation presented meanwhile comes
before the next phase move (assumption 7; the refusal itself is R207 by D20); that an idle block with nothing presented
stays as it is (assumption 12, from R244: it sends nothing until the host asks). -/
def Obligations.StepRunsWhatIsPresented : Prop :=
  ∀ s : State,
    (∀ (r : Request) (rest : List Request), s.phase = .idle → s.program = r :: rest →
      step s = exec (decodeOp r.word) { s with program := rest, operand := r.operand }) ∧
    (s.phase = .idle → s.program = [] → step s = .next s) ∧
    (∀ (r : Request) (rest : List Request), s.phase ≠ .idle → s.overlapping = r :: rest →
      step s = exec (decodeOp r.word) { s with overlapping := rest }) ∧
    (s.phase ≠ .idle → s.overlapping = [] → step s = sequencerStep s)

/-- R207 (a) (D20), for the meaning of every host operation: while the block is busy the operation is refused
and nothing else happens. -/
def Obligations.BusyBlockRefusesEveryOperation : Prop :=
  ∀ (i : Instr) (s : State), i.port = .hostWord → s.busy = true →
    exec i s = .next (s.withResult (.err .refused))

/-- R207 (a), R248 (D20), for a step: any word presented while the block is busy is refused, and the operation
in progress is not disturbed. -/
def Obligations.StepRefusesOverlappingWords : Prop :=
  ∀ (s : State) (r : Request) (rest : List Request), s.busy = true → s.overlapping = r :: rest →
    step s = .next ({ s with overlapping := rest }.withResult (.err .refused))

/-- R216: after any result the block is idle and accepts the next operation. From a block at rest every host
operation has exactly one result, but for a wait that is not satisfied yet. That such a wait has no result and stands
at POLL after one `exec` is the model's choice (assumption 4, R34 by D5), and that every other operation returns takes
for granted that each primitive does (assumption 24). -/
def Obligations.OperationsEndIdleOrWait : Prop :=
  ∀ (i : Instr) (s : State), i.port = .hostWord → s.Quiet →
    ∃ t, exec i s = .next t ∧
      ((t.Quiet ∧ ∃ r, t.results = s.results ++ [⟨t.history.length, r⟩]) ∨
       ((i = .waitUntilPresent ∨ i = .waitUntilAbsent) ∧
        t.phase = .poll ∧ t.current = some i ∧ t.results = s.results))

/-- R28, R69: no step changes the configuration. -/
def Obligations.ConfigurationNeverChanges : Prop :=
  ∀ s t : State, step s = .next t → t.cfg = s.cfg

/-- R40: the event history is append-only, and so are the results; a step hands over at most one. -/
def Obligations.HistoryAndResultsOnlyGrow : Prop :=
  ∀ s t : State, step s = .next t →
    (∃ events, t.history = s.history ++ events) ∧
    (t.results = s.results ∨ ∃ r, t.results = s.results ++ [r])

/-- R63, over runs from any state that meets the invariant: every read of the whole history is immediately
preceded by the 50 ms delay, and that by the write of a command frame to DEV_ADDR. -/
def Obligations.ReadsFollowWriteAndTurnaround : Prop :=
  ∀ (n : Nat) (s t : State), s.Inv → runSteps n s = .next t → ReadsPaced t.cfg.devAddr t.history

/-- R34 (D5): the sequencer moves only along the phase order of the operation in progress. -/
def Obligations.SequencerFollowsThePhaseOrder : Prop :=
  ∀ (s t : State) (i : Instr), s.Inv → s.current = some i → sequencerStep s = .next t →
    t.phase ∈ nextPhases s.cfg.mode i s.phase

/-- R34 (D5): running an operation whole is running its phases one by one. For the five operations that have
phases, the meaning's next state is the state some number of sequencer moves after the operation started:
the same buffers, record, events, answers used and results. Of a wait, `exec` is one iteration (assumption 4). -/
def Obligations.OperationsAreTheirPhases : Prop :=
  ∀ (i : Instr) (s : State), s.Quiet →
    i = .selectTag ∨ i = .getFirmware ∨ i = .isPresent ∨ i = .waitUntilPresent ∨ i = .waitUntilAbsent →
    ∃ n, n ≤ 9 ∧ runPhases n (s.begin i) = exec i s

/-! ### Whole-machine rules -/

/-- R25: only SELECT_TAG and DESELECT write the record, and the three presence operations in ProtocolPolled
mode. Every other host operation leaves SEL, CARDTYPE, UIDLEN and the UID registers as they were, and so does every
step of the block while such an operation is in progress, each later iteration of a PinSensed wait among them. -/
def Obligations.OtherOperationsLeaveTheRecord : Prop :=
  ∀ (i : Instr) (s t : State), i ≠ .selectTag → i ≠ .deselect →
    (s.cfg.mode = .pinSensed ∨ (i ≠ .isPresent ∧ i ≠ .waitUntilPresent ∧ i ≠ .waitUntilAbsent)) →
    (i.port = .hostWord → exec i s = .next t → s.SameRecord t) ∧
    (s.Inv → s.current = some i → step s = .next t → s.SameRecord t)

/-- R29: no operation changes MODE, and MODE selects the behaviour of the three presence operations only: every
other one does the same in both modes. -/
def Obligations.ModeMattersOnlyToPresence : Prop :=
  ∀ (i : Instr) (s t : State), exec i s = .next t →
    t.cfg.mode = s.cfg.mode ∧
    (i ≠ .isPresent → i ≠ .waitUntilPresent → i ≠ .waitUntilAbsent →
      ∀ m : PresenceMode, exec i (s.withMode m) = .next (t.withMode m))

/-- R211 (D13): only the two waits look at CANCEL. -/
def Obligations.OnlyWaitsSampleCancel : Prop :=
  ∀ (i : Instr) (s t : State), i ≠ .waitUntilPresent → i ≠ .waitUntilAbsent →
    exec i s = .next t → t.cancels = s.cancels

/-- R85: bytes after the declared frame take part in nothing. Two reads of the same size that agree on the
indices 0 to LEN end every operation that reads in the same state, but for what RXBUF holds. -/
def Obligations.TrailingBytesChangeNothing : Prop :=
  ∀ (i : Instr) (s t : State) (raw raw' : List Byte) (later : List ReadAnswer) (drawn : Nat),
    i = .selectTag ∨ i = .getFirmware ∨ i = .isPresent ∨ i = .waitUntilPresent ∨ i = .waitUntilAbsent →
    raw.length ≤ 15 → raw'.length = raw.length →
    (∀ len, raw[0]? = some len → raw'.take (len.toNat + 1) = raw.take (len.toNat + 1)) →
    s.reads = ⟨.bytes raw :: later, drawn⟩ → exec i s = .next t →
    ∃ t', exec i { s with reads := ⟨.bytes raw' :: later, drawn⟩ } = .next t' ∧
      { t' with rxBuf := t.rxBuf, reads := t.reads } = t

/-- R149 (D16): a select depends only on the bus answers of its own exchange. From two idle states that differ in
nothing but SEL, CARDTYPE and UID it gives the same next state. -/
def Obligations.SelectReadsNoRecord : Prop :=
  ∀ (s : State) (sel : Bool) (cardType : Option Byte) (uid : List Byte), s.phase = .idle →
    exec .selectTag { s with sel := sel, cardType := cardType, uid := uid } = exec .selectTag s

/-! ### Frame Codec, Version Validator, unassigned codes -/

/-- R110: ENCODE_COMMAND(cmd) returns `[0x01, cmd]` for every byte and changes nothing; inside an exchange the
same two bytes are placed in TXBUF. -/
def Obligations.EncodeCommandReturnsTheFrame : Prop :=
  ∀ (s : State) (cmd : Byte),
    (s.Quiet → exec (.encodeCommand cmd) s = .next (s.withResult (.ok (.bytes [0x01, cmd])))) ∧
    (s.loadCommand cmd).txBytes = [0x01, cmd]

/-- R112: ENCODE_COMMAND and DECODE_FRAME are pure. The same operands give the same result from every block at rest,
and nothing but the result is new: no event, no record, no TXBUF, RXBUF or RXCNT. -/
def Obligations.CodecIsPure : Prop :=
  ∀ (i : Instr) (raw : List Byte), (∃ cmd, i = .encodeCommand cmd) ∨ (∃ minLen, i = .decodeFrame minLen) →
    ∃ r : Result, ∀ s : State, s.Quiet → s.operand = raw → exec i s = .next (s.withResult r)

/-- R111 (an empty operand by D26): DECODE_FRAME(raw, minLen). When the four checks pass, the fields; when one
fails, MalformedFrame. Nothing else changes: RXBUF and RXCNT are untouched (R112). -/
def Obligations.DecodeFrameChecksThenSplits : Prop :=
  ∀ (s : State) (minLen : Byte), s.Quiet →
    (∀ (len cmd : Byte) (rest : List Byte), s.operand = len :: cmd :: rest →
      minLen.toNat ≤ rest.length + 2 → 2 ≤ len.toNat → len.toNat + 1 ≤ rest.length + 2 →
      exec (.decodeFrame minLen) s =
        .next (s.withResult (.ok (.frame ⟨len, cmd, slice s.operand 2 (len.toNat - 1)⟩)))) ∧
    (s.operand.length < minLen.toNat ∨ s.operand = [] ∨
      (∃ len rest, s.operand = len :: rest ∧ (len.toNat < 2 ∨ rest.length + 1 < len.toNat + 1)) →
      exec (.decodeFrame minLen) s = .next (s.withResult (.err .malformedFrame)))

/-- R130: VALIDATE(bytes) looks at byte 0 only; 0x53 is recognised, 0xD3 the clock-speed symptom, the other 254
values unrecognised, and an empty operand malformed. Nothing else changes. -/
def Obligations.ValidateClassifiesTheFirstByte : Prop :=
  ∀ s : State, s.Quiet →
    (s.operand = [] → exec .validate s = .next (s.withResult (.err .malformedFrame))) ∧
    (∀ (b : Byte) (rest : List Byte), s.operand = b :: rest →
      (b = 0x53 → exec .validate s = .next (s.withResult (.ok (.verdict .recognizedOk)))) ∧
      (b = 0xD3 → exec .validate s = .next (s.withResult (.ok (.verdict .clockSpeedCorruption)))) ∧
      (b ≠ 0x53 → b ≠ 0xD3 →
        exec .validate s = .next (s.withResult (.ok (.verdict .unrecognizedDevice)))))

/-- R97, R207 (b) (D2): the two unassigned codes end with Refused, idle or busy, and change nothing. -/
def Obligations.UnassignedCodesAreRefused : Prop :=
  ∀ s : State,
    exec .unassignedE s = .next (s.withResult (.err .refused)) ∧
    exec .unassignedF s = .next (s.withResult (.err .refused))

/-- R98, R208 (D3): the codes of the kinds results report. That the diagnostic field carries 0, OK, for a recognised
device is the model's choice (assumption 17): R98 gives that field the codes 4 and 5 only. -/
def Obligations.ResultKindsHaveTheirCodes : Prop :=
  (∀ e : ErrorKind, (Result.err e).kind.code =
    match e with | .ioError => 2 | .malformedFrame => 3 | .cancelled => 6 | .refused => 7) ∧
  (∀ v : Value, (Result.ok v).kind.code = if v = .noTag then 1 else 0) ∧
  (∀ v : Verdict, (Result.ok (.verdict v)).diagnostic.map Kind.code =
    some (match v with | .recognizedOk => 0 | .unrecognizedDevice => 4 | .clockSpeedCorruption => 5)) ∧
  (∀ (id : Text) (v : Verdict),
    (Result.ok (.firmware id v)).diagnostic = (Result.ok (.verdict v)).diagnostic)

/-! ### The exchange and the Tag Session -/

/-- R71: the exchange, whole. One failed write; or one write, one delay of 50 ms and one failed read; or one
write, one delay and one read whose bytes stand in RXBUF and are decoded. That they are at most 15 is R56 by D10, and
the model cuts a longer answer (assumption 10). After a failure RXBUF holds a free value (R214). -/
def Obligations.ExchangeIsWriteDelayRead : Prop :=
  ∀ (s : State) (cmd : Byte) (minLen : Nat), s.session = false →
    (s.writeAnswer = .ioError → exchange cmd minLen s = (.error .ioError, (s.afterWrite cmd).loseRxBuf)) ∧
    (s.writeAnswer = .ok → s.readAnswer = .ioError →
      exchange cmd minLen s = (.error .ioError, (s.afterAsking cmd).loseRxBuf)) ∧
    (∀ raw, s.writeAnswer = .ok → s.readAnswer = .bytes raw →
      raw.length ≤ 15 ∧ (s.afterRead cmd raw).rxBytes = raw ∧
      exchange cmd minLen s =
        (match decodeResponse raw minLen with
          | .ok f => (.ok f, s.afterRead cmd raw)
          | .error _ => (.error .malformedFrame, (s.afterRead cmd raw).loseRxBuf)))

/-- R140, R86 (an empty UID by D7): a well-formed response with STATUS 0x00 and a TYPE byte selects. The record
is the TYPE byte at index LEN and the LEN - 3 bytes from index 3 on, and nothing outside the record, the
buffers (assumption 6), the events and the answers used changes. -/
def Obligations.SelectTagSetsTheRecord : Prop :=
  ∀ (s : State) (raw : List Byte) (f : ResponseFrame) (cardType : Byte),
    s.Quiet → s.writeAnswer = .ok → s.readAnswer = .bytes raw → decodeResponse raw 3 = .ok f →
    raw[2]? = some 0x00 → 3 ≤ f.length.toNat → raw[f.length.toNat]? = some cardType →
    ∃ t, exec .selectTag s = .next t ∧
      t = ({ s.afterRead s.cfg.cmdSelectMifare raw with
              sel := true, cardType := some cardType,
              uid := slice raw 3 (f.length.toNat - 3) } : State).withResult
            (.ok (.selected cardType (slice raw 3 (f.length.toNat - 3)))) ∧
      t.uidLen = f.length.toNat - 3 ∧ t.uidLen ≤ 11

/-- R90, R203: a well-formed response with any other STATUS is NoTag, even at LEN = 2; the record is cleared.
The buffers hold the exchange (assumption 6). -/
def Obligations.SelectTagWithoutTagClears : Prop :=
  ∀ (s : State) (raw : List Byte) (f : ResponseFrame) (status : Byte),
    s.Quiet → s.writeAnswer = .ok → s.readAnswer = .bytes raw → decodeResponse raw 3 = .ok f →
    raw[2]? = some status → status ≠ 0x00 →
    exec .selectTag s =
      .next (({ s.afterRead s.cfg.cmdSelectMifare raw with sel := false, cardType := none, uid := [] } :
        State).withResult (.ok .noTag))

/-- R140, R201, R202 (D6: an errored select clears; D7: STATUS 0x00 with LEN = 2 is malformed): every way a
select fails, with the events it stops at. RXBUF is left free (R214), TXBUF keeps its frame (assumption 6). -/
def Obligations.FailedSelectTagClears : Prop :=
  ∀ s : State, s.Quiet →
    (s.writeAnswer = .ioError →
      exec .selectTag s =
        .next (({ (s.afterWrite s.cfg.cmdSelectMifare).loseRxBuf with
                    sel := false, cardType := none, uid := [] } : State).withResult (.err .ioError))) ∧
    (s.writeAnswer = .ok → s.readAnswer = .ioError →
      exec .selectTag s =
        .next (({ (s.afterAsking s.cfg.cmdSelectMifare).loseRxBuf with
                    sel := false, cardType := none, uid := [] } : State).withResult (.err .ioError))) ∧
    (∀ raw, s.writeAnswer = .ok → s.readAnswer = .bytes raw →
      ((∃ e, decodeResponse raw 3 = .error e) ∨
       (∃ f, decodeResponse raw 3 = .ok f ∧ raw[2]? = some 0x00 ∧ f.length.toNat = 2)) →
      exec .selectTag s =
        .next (({ (s.afterRead s.cfg.cmdSelectMifare raw).loseRxBuf with
                    sel := false, cardType := none, uid := [] } : State).withResult (.err .malformedFrame)))

/-- R89, R131: GET_FIRMWARE on a well-formed 15-byte response. FWID is the LEN - 2 bytes from index 3 on, the
reserved byte skipped; every verdict comes with the string, byte for byte; an empty FWID is malformed (D25). The
record is not touched, the buffers hold the exchange (assumption 6). -/
def Obligations.GetFirmwareReturnsTheIdentifier : Prop :=
  ∀ (s : State) (raw : List Byte) (f : ResponseFrame),
    s.Quiet → s.writeAnswer = .ok → s.readAnswer = .bytes raw → decodeResponse raw 15 = .ok f →
    (∀ (b : Byte) (rest : List Byte), slice raw 3 (f.length.toNat - 2) = b :: rest →
      exec .getFirmware s =
        .next ((s.afterRead s.cfg.cmdGetFirmware raw).withResult
          (.ok (.firmware ((b :: rest).map BitVec.toNat)
            (if b = 0x53 then .recognizedOk else if b = 0xD3 then .clockSpeedCorruption
             else .unrecognizedDevice))))) ∧
    (f.length.toNat = 2 →
      exec .getFirmware s =
        .next ((s.afterRead s.cfg.cmdGetFirmware raw).loseRxBuf.withResult (.err .malformedFrame))) ∧
    (3 ≤ f.length.toNat → (slice raw 3 (f.length.toNat - 2)).length = f.length.toNat - 2)

/-- R141, R201, R202, R214: the ways GET_FIRMWARE fails before it has an identifier. The record is not touched,
RXBUF is left free, TXBUF keeps its frame (assumption 6). -/
def Obligations.FailedGetFirmwareLeavesTheRecord : Prop :=
  ∀ s : State, s.Quiet →
    (s.writeAnswer = .ioError →
      exec .getFirmware s =
        .next ((s.afterWrite s.cfg.cmdGetFirmware).loseRxBuf.withResult (.err .ioError))) ∧
    (s.writeAnswer = .ok → s.readAnswer = .ioError →
      exec .getFirmware s =
        .next ((s.afterAsking s.cfg.cmdGetFirmware).loseRxBuf.withResult (.err .ioError))) ∧
    (∀ raw e, s.writeAnswer = .ok → s.readAnswer = .bytes raw → decodeResponse raw 15 = .error e →
      exec .getFirmware s =
        .next ((s.afterRead s.cfg.cmdGetFirmware raw).loseRxBuf.withResult (.err .malformedFrame)))

/-- R142 (D17: no bus event): DESELECT clears the record, from Idle and from Selected, and returns Ok(()). -/
def Obligations.DeselectClearsTheRecord : Prop :=
  ∀ s : State, s.Quiet →
    exec .deselect s =
      .next (({ s with sel := false, cardType := none, uid := [] } : State).withResult (.ok .done))

/-- R143 to R145 (D18): the accessors give the record when Selected, `[]`, `""` and None when Idle, and change
nothing. -/
def Obligations.AccessorsReportTheRecord : Prop :=
  ∀ s : State, s.Quiet →
    (s.sel = true →
      exec .getUid s = .next (s.withResult (.ok (.bytes s.uid))) ∧
      exec .getUidHex s = .next (s.withResult (.ok (.text (s.uid.flatMap hex2)))) ∧
      exec .getType s = .next (s.withResult (.ok (.cardType s.cardType)))) ∧
    (s.sel = false →
      exec .getUid s = .next (s.withResult (.ok (.bytes []))) ∧
      exec .getUidHex s = .next (s.withResult (.ok (.text []))) ∧
      exec .getType s = .next (s.withResult (.ok (.cardType none))))

/-- The source's select property (S2, S3; R140, R143 to R145): after a SELECT_TAG the three accessors report what it
returned, the hexadecimal form of its UID included, or empty and unset when it did not select (D18). That the record is
cleared, and they are empty, after IoError and MalformedFrame too is D6 (assumption 14), not the source's. -/
def Obligations.AccessorsAgreeWithTheLastSelect : Prop :=
  ∀ s t : State, s.Quiet → exec .selectTag s = .next t →
    (∃ cardType uid, t.results = s.results ++ [⟨t.history.length, .ok (.selected cardType uid)⟩] ∧
      t.sel = true ∧
      exec .getUid t = .next (t.withResult (.ok (.bytes uid))) ∧
      exec .getUidHex t = .next (t.withResult (.ok (.text (uid.flatMap hex2)))) ∧
      exec .getType t = .next (t.withResult (.ok (.cardType (some cardType))))) ∨
    (∃ r, t.results = s.results ++ [⟨t.history.length, r⟩] ∧
      (r = .ok .noTag ∨ r = .err .ioError ∨ r = .err .malformedFrame) ∧ t.Cleared ∧
      exec .getUid t = .next (t.withResult (.ok (.bytes []))) ∧
      exec .getUidHex t = .next (t.withResult (.ok (.text []))) ∧
      exec .getType t = .next (t.withResult (.ok (.cardType none))))

/-- R146, R94: UID_TO_HEX gives two upper-case hexadecimal digits for each byte, the high nibble first, in array
order, so 2 * len characters in all; nothing changes. The numbers 0x30 and 0x41 of '0' and 'A' are ASCII, which the
spec takes from general knowledge (R17, K5; assumption 18). -/
def Obligations.UidToHexRendersTwoDigitsPerByte : Prop :=
  ∀ s : State, s.Quiet →
    ∃ out : Text,
      exec .uidToHex s = .next (s.withResult (.ok (.text out))) ∧
      out.length = 2 * s.operand.length ∧
      ∀ (k : Nat) (b : Byte), s.operand[k]? = some b →
        out[2 * k]? = some (if b.toNat / 16 ≤ 9 then 0x30 + b.toNat / 16 else 0x41 + (b.toNat / 16 - 10)) ∧
        out[2 * k + 1]? = some (if b.toNat % 16 ≤ 9 then 0x30 + b.toNat % 16 else 0x41 + (b.toNat % 16 - 10))

/-- R147, R148, R91, R95 (D19: decimal without padding; D27: five names are configuration): TYPE_NAME for every
byte. "unknown:" is followed by the digits of the code, the first of them no zero unless the code is zero. The
names are compared as ASCII character codes, which the spec takes from general knowledge (R17, K5; assumption 18). -/
def Obligations.TypeNameCoversEveryCode : Prop :=
  ∀ (s : State) (code : Byte), s.Quiet →
    ∃ name : Text, exec (.typeName code) s = .next (s.withResult (.ok (.text name))) ∧
      (code = 0x01 → name = "mifare 1k, 4byte UID".toList.map Char.toNat) ∧
      (code = 0x02 → name = s.cfg.typeName02) ∧ (code = 0x03 → name = s.cfg.typeName03) ∧
      (code = 0x04 → name = s.cfg.typeName04) ∧ (code = 0x05 → name = s.cfg.typeName05) ∧
      (code = 0x06 → name = s.cfg.typeName06) ∧
      (code = 0x0A → name = "other".toList.map Char.toNat) ∧
      (code = 0x00 ∨ (0x07 ≤ code.toNat ∧ code ≠ 0x0A) →
        name = "unknown:".toList.map Char.toNat ++ (Nat.toDigits 10 code.toNat).map Char.toNat)

/-! ### The Presence Detector -/

/-- R180, R66: PinSensed IS_PRESENT reads the line once, Low is present, and nothing else changes. -/
def Obligations.PinSensedPresenceIsTheLevel : Prop :=
  ∀ s : State, s.Quiet → s.cfg.mode = .pinSensed →
    exec .isPresent s =
      .next (({ s with levels := s.levels.advance, history := s.history ++ [.level s.cfg.pin] } :
        State).withResult (.ok (.present (match s.levelAnswer with | .low => true | .high => false))))

/-- R180, R183 (D15: an error is surfaced): ProtocolPolled IS_PRESENT is a SELECT_TAG. It ends in the state the
select ends in, record and events included, but for the result, which is true exactly when the select's was
Selected, false for NoTag, and the select's own error. SEL is then 1 exactly when the select selected: it
is 0 after NoTag (R140), and after an error by D6 (assumption 14). -/
def Obligations.ProtocolPolledPresenceIsASelect : Prop :=
  ∀ s : State, s.Quiet → s.cfg.mode = .protocolPolled →
    ∃ (t : State) (r : Result),
      exec .selectTag s = .next (t.withResult r) ∧
      exec .isPresent s = .next (t.withResult
        (match r with
          | .ok (.selected _ _) => .ok (.present true)
          | .ok _ => .ok (.present false)
          | .err e => .err e)) ∧
      (t.sel = true ↔ ∃ cardType uid, r = .ok (.selected cardType uid))

/-- R181, R182, PinSensed (D13 for the CANCEL sample, D14: test first): a wait whose level is there at the first poll
returns Ok(()) at once, after one Level event and no delay; the record stays as it is. -/
def Obligations.SatisfiedWaitReturnsAtOnce : Prop :=
  ∀ s : State, s.Quiet → s.cfg.mode = .pinSensed → s.cancelAnswer = false →
    (s.levelAnswer = .low →
      exec .waitUntilPresent s =
        .next (({ s with cancels := s.cancels.advance, levels := s.levels.advance,
                         history := s.history ++ [.level s.cfg.pin] } : State).withResult (.ok .done))) ∧
    (s.levelAnswer = .high →
      exec .waitUntilAbsent s =
        .next (({ s with cancels := s.cancels.advance, levels := s.levels.advance,
                         history := s.history ++ [.level s.cfg.pin] } : State).withResult (.ok .done)))

/-- R181, R182, PinSensed (D14, and D13 for the CANCEL sample): a wait whose level is not there delays 10 or 500 ms
after the poll and stays in progress, with no result. That one `exec` is this one iteration, after which the wait
stands at POLL, is the model's choice (assumption 4, R34 by D5). -/
def Obligations.UnsatisfiedWaitDelaysAndGoesOn : Prop :=
  ∀ s : State, s.Quiet → s.cfg.mode = .pinSensed → s.cancelAnswer = false →
    (s.levelAnswer = .high →
      exec .waitUntilPresent s =
        .next { s with cancels := s.cancels.advance, levels := s.levels.advance,
                       history := s.history ++ [.level s.cfg.pin, .delay 10],
                       phase := .poll, current := some .waitUntilPresent }) ∧
    (s.levelAnswer = .low →
      exec .waitUntilAbsent s =
        .next { s with cancels := s.cancels.advance, levels := s.levels.advance,
                       history := s.history ++ [.level s.cfg.pin, .delay 500],
                       phase := .poll, current := some .waitUntilAbsent })

/-- R206, R181, R182 (D13), in either mode: a wait that samples CANCEL = 1 at the top of an iteration ends with
Cancelled and does not poll: no event, no answer asked for, the record as the polls so far left it. At its start no poll
is made at all; and the same at the top of a later iteration, where the wait stands at POLL and its end takes two
steps, POLL and DONE (assumption 4). That RXBUF stays as the last poll left it is the model's choice (assumption 6; R214
calls it unspecified after an error). -/
def Obligations.CancelledWaitPollsNothing : Prop :=
  ∀ s : State, s.cancelAnswer = true →
    (s.Quiet →
      exec .waitUntilPresent s =
        .next (({ s with cancels := s.cancels.advance } : State).withResult (.err .cancelled)) ∧
      exec .waitUntilAbsent s =
        .next (({ s with cancels := s.cancels.advance } : State).withResult (.err .cancelled))) ∧
    (s.phase = .poll → s.current = some .waitUntilPresent ∨ s.current = some .waitUntilAbsent →
      s.overlapping = [] →
      runSteps 2 s =
        .next (({ s with cancels := s.cancels.advance, phase := .idle, current := none, outcome := none,
                         frame := none, fwid := none, found := none } : State).withResult (.err .cancelled)))

/-- R181 to R183, ProtocolPolled (D13, D14, D15): each poll of a wait is a SELECT_TAG with its events and its
writes of the record. Selected satisfies WAIT_UNTIL_PRESENT, NoTag satisfies WAIT_UNTIL_ABSENT, an error ends
either, and otherwise the poll interval follows and the wait goes on. That one `exec` is one iteration, after which the
wait stands at POLL, is the model's choice (assumption 4, R34 by D5). -/
def Obligations.ProtocolPolledWaitPollsBySelecting : Prop :=
  ∀ s : State, s.Quiet → s.cfg.mode = .protocolPolled → s.cancelAnswer = false →
    ∃ (t : State) (r : Result),
      exec .selectTag s = .next (t.withResult r) ∧
      exec .waitUntilPresent s =
        .next (match r with
          | .ok (.selected _ _) =>
            ({ t with cancels := s.cancels.advance } : State).withResult (.ok .done)
          | .ok _ =>
            { t with cancels := s.cancels.advance, history := t.history ++ [.delay 10], phase := .poll,
                     current := some .waitUntilPresent }
          | .err e => ({ t with cancels := s.cancels.advance } : State).withResult (.err e)) ∧
      exec .waitUntilAbsent s =
        .next (match r with
          | .ok (.selected _ _) =>
            { t with cancels := s.cancels.advance, history := t.history ++ [.delay 500], phase := .poll,
                     current := some .waitUntilAbsent }
          | .ok _ => ({ t with cancels := s.cancels.advance } : State).withResult (.ok .done)
          | .err e => ({ t with cancels := s.cancels.advance } : State).withResult (.err e))

/-- R181, R182, R185, PinSensed (D13, D14): once the pin reads the awaited level, after k polls that read the other, a
wait returns: WAIT_UNTIL_PRESENT awaits Low and delays 10 ms, WAIT_UNTIL_ABSENT awaits High and delays 500 ms. The
premise on the pin and on CANCEL is the one R185 asks for. That a delay and a level read return is taken for granted
(assumption 24, D12), and the count of steps, two for each poll before the last, is the model's (assumption 4, R34 by
D5). -/
def Obligations.WaitReturnsWhenThePinDoes : Prop :=
  ∀ (i : Instr) (awaited other : Level) (interval k : Nat) (s : State) (r : Request) (levels : List Level)
    (cancels : List Bool),
    (i = .waitUntilPresent ∧ awaited = .low ∧ other = .high ∧ interval = 10) ∨
      (i = .waitUntilAbsent ∧ awaited = .high ∧ other = .low ∧ interval = 500) →
    s.Quiet → s.cfg.mode = .pinSensed → s.program = [r] → decodeOp r.word = i → s.overlapping = [] →
    s.levels.scripted = List.replicate k other ++ awaited :: levels →
    s.cancels.scripted = List.replicate (k + 1) false ++ cancels →
    ∃ t, runSteps (2 * k + 1) s = .next t ∧ t.Quiet ∧ s.SameRecord t ∧
      t.history =
        s.history ++ (List.replicate k [.level s.cfg.pin, .delay interval]).flatten ++ [.level s.cfg.pin] ∧
      t.results = s.results ++ [⟨t.history.length, .ok .done⟩]

/-- R185, with R181, R182 (D13 for CANCEL, assumption 15; D14 for each level before its delay, assumption 16),
PinSensed: nothing bounds the number of polls. As long as the pin does not read the level a wait awaits (Low for
WAIT_UNTIL_PRESENT, High for WAIT_UNTIL_ABSENT) and CANCEL reads 0, the wait is still in progress, without a result,
after any number of polls. That k + 1 polls are 2 * k + 1 steps is the model's granularity (assumption 4, R34 by D5). -/
def Obligations.WaitHasNoBound : Prop :=
  ∀ (i : Instr) (other : Level) (interval k : Nat) (s : State) (r : Request) (levels : List Level)
    (cancels : List Bool),
    (i = .waitUntilPresent ∧ other = .high ∧ interval = 10) ∨
      (i = .waitUntilAbsent ∧ other = .low ∧ interval = 500) →
    s.Quiet → s.cfg.mode = .pinSensed → s.program = [r] → decodeOp r.word = i → s.overlapping = [] →
    s.levels.scripted = List.replicate (k + 1) other ++ levels →
    s.cancels.scripted = List.replicate (k + 1) false ++ cancels →
    ∃ t, runSteps (2 * k + 1) s = .next t ∧ t.busy = true ∧ t.current = some i ∧
      t.results = s.results ∧
      t.history = s.history ++ (List.replicate (k + 1) [.level s.cfg.pin, .delay interval]).flatten

/-! ### The frames of the wire, in the phase they belong to (R34 by D5) -/

/-- R82, R34: in ENCODE the frame `[0x01, cmd]` enters TXBUF and TX_WRITE follows. -/
def Obligations.CommandFrameEntersTxbuf : Prop :=
  ∀ (s : State) (cmd : Byte),
    exec (.cmdFrame cmd) s = .next { s with txBuf := #v[0x01, cmd], phase := .txWrite }

/-- R83, R71, R34: the frame of SELECT_TAG, or of a poll, goes out to DEV_ADDR as one Write event. Acknowledged,
a session is open and TURNAROUND follows; failed, RXBUF is free (R214) and COMMIT follows with the error, or
straight DONE when the operation in progress is GET_FIRMWARE. The same for the frame of GET_FIRMWARE. That the session
is opened by the write and stays open over the delay is the model's choice (assumption 25, R67 by D11). -/
def Obligations.TheTwoCommandFramesAreSent : Prop :=
  ∀ s : State,
    (s.writeAnswer = .ok →
      exec .cmdFrameSelectMifare s =
        .next { s.afterWrite s.cfg.cmdSelectMifare with session := true, phase := .turnaround } ∧
      exec .cmdFrameGetFirmware s =
        .next { s.afterWrite s.cfg.cmdGetFirmware with session := true, phase := .turnaround }) ∧
    (s.writeAnswer = .ioError →
      exec .cmdFrameSelectMifare s =
        .next { (s.afterWrite s.cfg.cmdSelectMifare).loseRxBuf with
                  session := false, outcome := some (.err .ioError),
                  phase := if s.current = some .getFirmware then .done else .commit } ∧
      exec .cmdFrameGetFirmware s =
        .next { (s.afterWrite s.cfg.cmdGetFirmware).loseRxBuf with
                  session := false, outcome := some (.err .ioError),
                  phase := if s.current = some .getFirmware then .done else .commit })

/-- R84, R32, R33: in DECODE a well-formed response becomes the frame view, and DECODE is not over: the fields are
extracted next. -/
def Obligations.ResponseFrameBecomesTheView : Prop :=
  ∀ (s : State) (cmd : Byte) (payload : List Byte),
    exec (.respFrame cmd payload) s =
      .next { s with frame := some ⟨BitVec.ofNat 8 (payload.length + 1), cmd, payload⟩, phase := .decode }

/-- R86, R87, R90, R33, R34, for a SELECT_TAG in progress (phases by D5, a response without TYPE by D7). DECODE takes
STATUS, UID and TYPE from the response; COMMIT then sets the record from STATUS 0x00 with a TYPE byte, clears it
otherwise, and DONE follows with the result. A response without TYPE is found malformed in DECODE: RXBUF is then free
(R214), the view `f` ends with it (assumption 22), and COMMIT clears the record by D6 (assumption 14). The field
`found`, in which the extracted fields wait for COMMIT, is the model's own (assumption 21). -/
def Obligations.SelectResponseIsCommitted : Prop :=
  ∀ (s : State) (cmd status : Byte) (uid : List Byte) (type : Option Byte), s.current = some .selectTag →
    ∃ f t, f = (⟨BitVec.ofNat 8 ((status :: (uid ++ type.toList)).length + 1), cmd,
                 status :: (uid ++ type.toList)⟩ : ResponseFrame) ∧
    exec (.respSelect cmd status uid type) s = .next t ∧
    (status ≠ 0x00 →
      t = { s with frame := some f, found := some .noTag, phase := .commit } ∧
      sequencerStep t =
        .next { t with sel := false, cardType := none, uid := [],
                       outcome := some (.ok .noTag), phase := .done }) ∧
    (status = 0x00 → type = none →
      t = { s.loseRxBuf with frame := none, found := none, session := false,
                             outcome := some (.err .malformedFrame), phase := .commit } ∧
      sequencerStep t = .next { t with sel := false, cardType := none, uid := [], phase := .done }) ∧
    (∀ cardType, status = 0x00 → type = some cardType →
      t = { s with frame := some f, found := some (.selected cardType uid), phase := .commit } ∧
      sequencerStep t =
        .next { t with sel := true, cardType := some cardType, uid := uid,
                       outcome := some (.ok (.selected cardType uid)), phase := .done })

/-- R86, R180 to R183, R33, R34 (D5, D6, D7, D14, D15), for a poll of the presence operations: DECODE takes the fields of
the response, which writes no record yet; COMMIT writes it as for a select. IS_PRESENT goes to DONE with the answer; a
wait goes to DONE when the presence is the wanted one and to POLL_WAIT when not; a response that DECODE found malformed
ends all three, and the record is then cleared by D6 (assumption 14). No event and no result yet. -/
def Obligations.SelectResponseDecidesAPoll : Prop :=
  ∀ (s : State) (cmd status : Byte) (uid : List Byte) (type : Option Byte),
    ∃ t, exec (.respSelect cmd status uid type) s = .next t ∧ s.SameRecord t ∧
      t.history = s.history ∧ t.results = s.results ∧ t.current = s.current ∧ t.cfg = s.cfg ∧
      (s.current = some .isPresent ∨ s.current = some .waitUntilPresent ∨ s.current = some .waitUntilAbsent →
        t.phase = .commit ∧
        ∃ u, sequencerStep t = .next u ∧
          u.history = s.history ∧ u.results = s.results ∧ u.current = s.current ∧ u.cfg = s.cfg ∧
          (status ≠ 0x00 → u.Cleared ∧
            (s.current = some .isPresent → u.phase = .done ∧ u.outcome = some (.ok (.present false))) ∧
            (s.current = some .waitUntilPresent → u.phase = .pollWait ∧ u.outcome = none) ∧
            (s.current = some .waitUntilAbsent → u.phase = .done ∧ u.outcome = some (.ok .done))) ∧
          (status = 0x00 → type = none →
            u.Cleared ∧ u.phase = .done ∧ u.outcome = some (.err .malformedFrame)) ∧
          (∀ cardType, status = 0x00 → type = some cardType →
            (u.sel = true ∧ u.cardType = some cardType ∧ u.uid = uid) ∧
            (s.current = some .isPresent → u.phase = .done ∧ u.outcome = some (.ok (.present true))) ∧
            (s.current = some .waitUntilPresent → u.phase = .done ∧ u.outcome = some (.ok .done)) ∧
            (s.current = some .waitUntilAbsent → u.phase = .pollWait ∧ u.outcome = none)))

/-- R88, R89, R130, R33, R34, R38 (phases by D5). DECODE of a firmware response puts the identifier in FWID, the
reserved byte takes part in nothing, and VALIDATE follows. It goes to DONE with the string and its verdict, or with
MalformedFrame when the identifier is empty (D25); RXBUF is then free (R214), and the view ends with it
(assumption 22). -/
def Obligations.FirmwareResponseIsValidated : Prop :=
  ∀ (s : State) (cmd reserved : Byte) (fwid : List Byte),
    ∃ t, exec (.respFirmware cmd reserved fwid) s = .next t ∧
      t = { s with frame := some ⟨BitVec.ofNat 8 (fwid.length + 2), cmd, reserved :: fwid⟩,
                   fwid := some fwid, phase := .validate } ∧
      (∀ (b : Byte) (rest : List Byte), fwid = b :: rest →
        sequencerStep t =
          .next { t with
            outcome := some (.ok (.firmware (fwid.map BitVec.toNat)
              (if b = 0x53 then .recognizedOk else if b = 0xD3 then .clockSpeedCorruption
               else .unrecognizedDevice))),
            phase := .done }) ∧
      (fwid = [] →
        sequencerStep t =
          .next { t.loseRxBuf with frame := none, outcome := some (.err .malformedFrame), phase := .done })
end

