-- ==== Sys2Proof/Laws/Decode.lean ====
section
/-! SUPPORT. The fields of an operation word (spec/30_encoding.md R97). -/

namespace Sys2Proof

theorem opField_opWord (op : BitVec 4) (arg : Byte) : opField (opWord op arg) = op := by
  apply BitVec.eq_of_getLsbD_eq
  intro i hi
  have h : (opWord op arg).getLsbD (8 + i) = op.getLsbD i :=
    (BitVec.getLsbD_append (x := op) (y := arg)).trans (by simp)
  simp [opField, h, hi]

theorem argField_opWord (op : BitVec 4) (arg : Byte) : argField (opWord op arg) = arg := by
  apply BitVec.eq_of_getLsbD_eq
  intro i hi
  have h : (opWord op arg).getLsbD i = arg.getLsbD i :=
    (BitVec.getLsbD_append (x := op) (y := arg)).trans (by simp [hi])
  simp [argField, h, hi]

/-- An operation word is its two fields, OP above ARG. -/
theorem opWord_fields (w : BitVec 12) : opWord (opField w) (argField w) = w := by
  apply BitVec.eq_of_getLsbD_eq
  intro i hi
  refine (BitVec.getLsbD_append (x := opField w) (y := argField w)).trans ?_
  simp only [opField, argField, BitVec.getLsbD_extractLsb']
  split
  · simp [*]
  · have : i - 8 < 4 := by omega
    simp [this, show 8 + (i - 8) = i by omega]

/-- Every operation word is a host operation's (R97: all sixteen codes have a row). -/
theorem decodeOp_port (w : BitVec 12) : (decodeOp w).port = .hostWord := by
  unfold decodeOp
  split <;> rfl

end Sys2Proof
end

