-- ==== Sys2Proof/Laws/Operands.lean ====
section
/-! SUPPORT. What the byte registers hold after they were loaded, and what the response decoder accepts. -/

namespace Sys2Proof.Machine

/-- What was loaded is what is read back. -/
theorem readRegs_loadRegs {n : Nat} (old : Vector Byte n) (bytes : List Byte) (h : bytes.length ≤ n) :
    readRegs (loadRegs old bytes) bytes.length = bytes := by
  simp [readRegs, loadRegs, List.take_of_length_le h]

/-- TXBUF after a command frame was loaded, whatever it held. -/
theorem loadRegs_commandFrame (old : Vector Byte 2) (cmd : Byte) :
    loadRegs old (commandFrame cmd) = #v[0x01, cmd] := by
  obtain ⟨⟨l⟩, h⟩ := old
  match l, h with
  | [a, b], _ => rfl

/-- The bytes of TXBUF after a command frame was loaded. -/
@[simp] theorem txBytes_loadCommand (s : State) (cmd : Byte) : (s.loadCommand cmd).txBytes = [0x01, cmd] := by
  simp [State.txBytes, State.loadCommand, loadRegs_commandFrame]

/-- R56: a read never answers more than MAXFRAME bytes. -/
theorem readAnswer_fits {s : State} {raw : List Byte} (h : s.readAnswer = .bytes raw) : raw.length ≤ 15 := by
  unfold State.readAnswer at h
  split at h
  · cases h
  · cases h; simp

/-- R31: RXBUF after a read was stored gives the read back. -/
theorem rxBytes_storeResponse (s : State) (raw : List Byte) (h : raw.length ≤ 15) :
    (s.storeResponse raw).rxBytes = raw :=
  readRegs_loadRegs _ raw h

end Sys2Proof.Machine

namespace Sys2Proof

/-- The only shape a decoded response comes from: a length byte of at least 2, a command byte, and at least
`LEN - 1` more bytes. -/
theorem decodeResponse_cases {raw : List Byte} {minLen : Nat} {f : ResponseFrame}
    (h : decodeResponse raw minLen = .ok f) :
    ∃ rest, raw = f.length :: f.command :: rest ∧ minLen ≤ raw.length ∧ 2 ≤ f.length.toNat ∧
      f.length.toNat + 1 ≤ raw.length ∧ f.payload = rest.take (f.length.toNat - 1) := by
  unfold decodeResponse at h
  split at h
  · cases h
  · next hmin =>
    split at h
    · cases h
    · next len after =>
      split at h
      · cases h
      · split at h
        · cases h
        · next hlow hin =>
          split at h
          · cases h
          · next cmd rest =>
            cases h
            exact ⟨rest, rfl, by omega, Nat.le_of_not_lt hlow, Nat.le_of_not_gt hin, rfl⟩

/-- The converse: that shape decodes. -/
theorem decodeResponse_of_shape (len cmd : Byte) (rest : List Byte) (minLen : Nat)
    (hmin : minLen ≤ rest.length + 2) (hlow : 2 ≤ len.toNat) (hin : len.toNat + 1 ≤ rest.length + 2) :
    decodeResponse (len :: cmd :: rest) minLen = .ok ⟨len, cmd, rest.take (len.toNat - 1)⟩ := by
  unfold decodeResponse
  rw [if_neg (by simp only [List.length_cons]; omega)]
  simp only [List.length_cons]
  rw [if_neg (by omega), if_neg (by omega)]

/-- A response that one least size admits, a smaller one admits with the same fields. -/
theorem decodeResponse_mono {raw : List Byte} {m n : Nat} {f : ResponseFrame} (hmn : n ≤ m)
    (h : decodeResponse raw m = .ok f) : decodeResponse raw n = .ok f := by
  obtain ⟨rest, rfl, h1, h2, h3, h4⟩ := decodeResponse_cases h
  simp only [List.length_cons] at h1 h3
  rw [decodeResponse_of_shape _ _ _ _ (by omega) h2 (by omega), ← h4]

/-- R84: the payload has LEN - 1 bytes, at least one. -/
theorem decodeResponse_payload_length {raw : List Byte} {m : Nat} {f : ResponseFrame}
    (h : decodeResponse raw m = .ok f) : f.payload.length + 1 = f.length.toNat ∧ 1 ≤ f.payload.length := by
  obtain ⟨rest, hr, h1, h2, h3, h4⟩ := decodeResponse_cases h
  have : raw.length = rest.length + 2 := by rw [hr]; rfl
  rw [h4, List.length_take]
  omega

/-- R84: there is a payload byte, the STATUS or the RESERVED one. -/
theorem decodeResponse_payload_cons {raw : List Byte} {m : Nat} {f : ResponseFrame}
    (h : decodeResponse raw m = .ok f) : ∃ b rest, f.payload = b :: rest :=
  List.exists_cons_of_length_pos (decodeResponse_payload_length h).2

/-- A frame view is rebuilt from its command byte and its payload. -/
theorem decodeResponse_rebuild {raw : List Byte} {m : Nat} {f : ResponseFrame}
    (h : decodeResponse raw m = .ok f) :
    (⟨BitVec.ofNat 8 (f.payload.length + 1), f.command, f.payload⟩ : ResponseFrame) = f := by
  rw [(decodeResponse_payload_length h).1]
  cases f
  simp

/-- The payload of a select response is put together again from its fields. -/
theorem selectPayload_split (status : Byte) (rest : List Byte) :
    selectPayload status rest.dropLast rest.getLast? = status :: rest := by
  cases h : rest.getLast? with
  | none => simp_all [selectPayload]
  | some t => simp [selectPayload, List.dropLast_append_getLast? t h]

end Sys2Proof
end

