-- ==== Sys2Proof/Laws/State.lean ====
section
/-! SUPPORT. What each update of the state leaves in each field. -/

namespace Sys2Proof.Machine


/-! `State.clearRecord` -/

@[simp] theorem State.clearRecord_cfg (s : State) : s.clearRecord.cfg = s.cfg := rfl
@[simp] theorem State.clearRecord_sel (s : State) : s.clearRecord.sel = false := rfl
@[simp] theorem State.clearRecord_cardType (s : State) : s.clearRecord.cardType = none := rfl
@[simp] theorem State.clearRecord_uid (s : State) : s.clearRecord.uid = [] := rfl
@[simp] theorem State.clearRecord_txBuf (s : State) : s.clearRecord.txBuf = s.txBuf := rfl
@[simp] theorem State.clearRecord_rxBuf (s : State) : s.clearRecord.rxBuf = s.rxBuf := rfl
@[simp] theorem State.clearRecord_rxCnt (s : State) : s.clearRecord.rxCnt = s.rxCnt := rfl
@[simp] theorem State.clearRecord_frame (s : State) : s.clearRecord.frame = s.frame := rfl
@[simp] theorem State.clearRecord_fwid (s : State) : s.clearRecord.fwid = s.fwid := rfl
@[simp] theorem State.clearRecord_found (s : State) : s.clearRecord.found = s.found := rfl
@[simp] theorem State.clearRecord_phase (s : State) : s.clearRecord.phase = s.phase := rfl
@[simp] theorem State.clearRecord_session (s : State) : s.clearRecord.session = s.session := rfl
@[simp] theorem State.clearRecord_current (s : State) : s.clearRecord.current = s.current := rfl
@[simp] theorem State.clearRecord_outcome (s : State) : s.clearRecord.outcome = s.outcome := rfl
@[simp] theorem State.clearRecord_operand (s : State) : s.clearRecord.operand = s.operand := rfl
@[simp] theorem State.clearRecord_program (s : State) : s.clearRecord.program = s.program := rfl
@[simp] theorem State.clearRecord_overlapping (s : State) : s.clearRecord.overlapping = s.overlapping := rfl
@[simp] theorem State.clearRecord_results (s : State) : s.clearRecord.results = s.results := rfl
@[simp] theorem State.clearRecord_history (s : State) : s.clearRecord.history = s.history := rfl
@[simp] theorem State.clearRecord_writes (s : State) : s.clearRecord.writes = s.writes := rfl
@[simp] theorem State.clearRecord_reads (s : State) : s.clearRecord.reads = s.reads := rfl
@[simp] theorem State.clearRecord_levels (s : State) : s.clearRecord.levels = s.levels := rfl
@[simp] theorem State.clearRecord_cancels (s : State) : s.clearRecord.cancels = s.cancels := rfl
@[simp] theorem State.clearRecord_freeDraws (s : State) : s.clearRecord.freeDraws = s.freeDraws := rfl

/-! `State.setRecord` -/

@[simp] theorem State.setRecord_cfg (s : State) (c : Byte) (u : List Byte) : (s.setRecord c u).cfg = s.cfg := rfl
@[simp] theorem State.setRecord_sel (s : State) (c : Byte) (u : List Byte) : (s.setRecord c u).sel = true := rfl
@[simp] theorem State.setRecord_cardType (s : State) (c : Byte) (u : List Byte) : (s.setRecord c u).cardType = some c := rfl
@[simp] theorem State.setRecord_uid (s : State) (c : Byte) (u : List Byte) : (s.setRecord c u).uid = u := rfl
@[simp] theorem State.setRecord_txBuf (s : State) (c : Byte) (u : List Byte) : (s.setRecord c u).txBuf = s.txBuf := rfl
@[simp] theorem State.setRecord_rxBuf (s : State) (c : Byte) (u : List Byte) : (s.setRecord c u).rxBuf = s.rxBuf := rfl
@[simp] theorem State.setRecord_rxCnt (s : State) (c : Byte) (u : List Byte) : (s.setRecord c u).rxCnt = s.rxCnt := rfl
@[simp] theorem State.setRecord_frame (s : State) (c : Byte) (u : List Byte) : (s.setRecord c u).frame = s.frame := rfl
@[simp] theorem State.setRecord_fwid (s : State) (c : Byte) (u : List Byte) : (s.setRecord c u).fwid = s.fwid := rfl
@[simp] theorem State.setRecord_found (s : State) (c : Byte) (u : List Byte) : (s.setRecord c u).found = s.found := rfl
@[simp] theorem State.setRecord_phase (s : State) (c : Byte) (u : List Byte) : (s.setRecord c u).phase = s.phase := rfl
@[simp] theorem State.setRecord_session (s : State) (c : Byte) (u : List Byte) : (s.setRecord c u).session = s.session := rfl
@[simp] theorem State.setRecord_current (s : State) (c : Byte) (u : List Byte) : (s.setRecord c u).current = s.current := rfl
@[simp] theorem State.setRecord_outcome (s : State) (c : Byte) (u : List Byte) : (s.setRecord c u).outcome = s.outcome := rfl
@[simp] theorem State.setRecord_operand (s : State) (c : Byte) (u : List Byte) : (s.setRecord c u).operand = s.operand := rfl
@[simp] theorem State.setRecord_program (s : State) (c : Byte) (u : List Byte) : (s.setRecord c u).program = s.program := rfl
@[simp] theorem State.setRecord_overlapping (s : State) (c : Byte) (u : List Byte) : (s.setRecord c u).overlapping = s.overlapping := rfl
@[simp] theorem State.setRecord_results (s : State) (c : Byte) (u : List Byte) : (s.setRecord c u).results = s.results := rfl
@[simp] theorem State.setRecord_history (s : State) (c : Byte) (u : List Byte) : (s.setRecord c u).history = s.history := rfl
@[simp] theorem State.setRecord_writes (s : State) (c : Byte) (u : List Byte) : (s.setRecord c u).writes = s.writes := rfl
@[simp] theorem State.setRecord_reads (s : State) (c : Byte) (u : List Byte) : (s.setRecord c u).reads = s.reads := rfl
@[simp] theorem State.setRecord_levels (s : State) (c : Byte) (u : List Byte) : (s.setRecord c u).levels = s.levels := rfl
@[simp] theorem State.setRecord_cancels (s : State) (c : Byte) (u : List Byte) : (s.setRecord c u).cancels = s.cancels := rfl
@[simp] theorem State.setRecord_freeDraws (s : State) (c : Byte) (u : List Byte) : (s.setRecord c u).freeDraws = s.freeDraws := rfl

/-! `State.busWrite` -/

@[simp] theorem State.busWrite_cfg (s : State) : s.busWrite.cfg = s.cfg := rfl
@[simp] theorem State.busWrite_sel (s : State) : s.busWrite.sel = s.sel := rfl
@[simp] theorem State.busWrite_cardType (s : State) : s.busWrite.cardType = s.cardType := rfl
@[simp] theorem State.busWrite_uid (s : State) : s.busWrite.uid = s.uid := rfl
@[simp] theorem State.busWrite_txBuf (s : State) : s.busWrite.txBuf = s.txBuf := rfl
@[simp] theorem State.busWrite_rxBuf (s : State) : s.busWrite.rxBuf = s.rxBuf := rfl
@[simp] theorem State.busWrite_rxCnt (s : State) : s.busWrite.rxCnt = s.rxCnt := rfl
@[simp] theorem State.busWrite_frame (s : State) : s.busWrite.frame = s.frame := rfl
@[simp] theorem State.busWrite_fwid (s : State) : s.busWrite.fwid = s.fwid := rfl
@[simp] theorem State.busWrite_found (s : State) : s.busWrite.found = s.found := rfl
@[simp] theorem State.busWrite_phase (s : State) : s.busWrite.phase = s.phase := rfl
@[simp] theorem State.busWrite_session (s : State) : s.busWrite.session = true := rfl
@[simp] theorem State.busWrite_current (s : State) : s.busWrite.current = s.current := rfl
@[simp] theorem State.busWrite_outcome (s : State) : s.busWrite.outcome = s.outcome := rfl
@[simp] theorem State.busWrite_operand (s : State) : s.busWrite.operand = s.operand := rfl
@[simp] theorem State.busWrite_program (s : State) : s.busWrite.program = s.program := rfl
@[simp] theorem State.busWrite_overlapping (s : State) : s.busWrite.overlapping = s.overlapping := rfl
@[simp] theorem State.busWrite_results (s : State) : s.busWrite.results = s.results := rfl
@[simp] theorem State.busWrite_history (s : State) : s.busWrite.history = s.history ++ [.write s.cfg.devAddr s.txBytes] := rfl
@[simp] theorem State.busWrite_writes (s : State) : s.busWrite.writes = s.writes.advance := rfl
@[simp] theorem State.busWrite_reads (s : State) : s.busWrite.reads = s.reads := rfl
@[simp] theorem State.busWrite_levels (s : State) : s.busWrite.levels = s.levels := rfl
@[simp] theorem State.busWrite_cancels (s : State) : s.busWrite.cancels = s.cancels := rfl
@[simp] theorem State.busWrite_freeDraws (s : State) : s.busWrite.freeDraws = s.freeDraws := rfl

/-! `State.busRead` -/

@[simp] theorem State.busRead_cfg (s : State) : s.busRead.cfg = s.cfg := rfl
@[simp] theorem State.busRead_sel (s : State) : s.busRead.sel = s.sel := rfl
@[simp] theorem State.busRead_cardType (s : State) : s.busRead.cardType = s.cardType := rfl
@[simp] theorem State.busRead_uid (s : State) : s.busRead.uid = s.uid := rfl
@[simp] theorem State.busRead_txBuf (s : State) : s.busRead.txBuf = s.txBuf := rfl
@[simp] theorem State.busRead_rxBuf (s : State) : s.busRead.rxBuf = s.rxBuf := rfl
@[simp] theorem State.busRead_rxCnt (s : State) : s.busRead.rxCnt = s.rxCnt := rfl
@[simp] theorem State.busRead_frame (s : State) : s.busRead.frame = s.frame := rfl
@[simp] theorem State.busRead_fwid (s : State) : s.busRead.fwid = s.fwid := rfl
@[simp] theorem State.busRead_found (s : State) : s.busRead.found = s.found := rfl
@[simp] theorem State.busRead_phase (s : State) : s.busRead.phase = s.phase := rfl
@[simp] theorem State.busRead_session (s : State) : s.busRead.session = s.session := rfl
@[simp] theorem State.busRead_current (s : State) : s.busRead.current = s.current := rfl
@[simp] theorem State.busRead_outcome (s : State) : s.busRead.outcome = s.outcome := rfl
@[simp] theorem State.busRead_operand (s : State) : s.busRead.operand = s.operand := rfl
@[simp] theorem State.busRead_program (s : State) : s.busRead.program = s.program := rfl
@[simp] theorem State.busRead_overlapping (s : State) : s.busRead.overlapping = s.overlapping := rfl
@[simp] theorem State.busRead_results (s : State) : s.busRead.results = s.results := rfl
@[simp] theorem State.busRead_history (s : State) : s.busRead.history = s.history ++ [.read s.cfg.devAddr maxFrame] := rfl
@[simp] theorem State.busRead_writes (s : State) : s.busRead.writes = s.writes := rfl
@[simp] theorem State.busRead_reads (s : State) : s.busRead.reads = s.reads.advance := rfl
@[simp] theorem State.busRead_levels (s : State) : s.busRead.levels = s.levels := rfl
@[simp] theorem State.busRead_cancels (s : State) : s.busRead.cancels = s.cancels := rfl
@[simp] theorem State.busRead_freeDraws (s : State) : s.busRead.freeDraws = s.freeDraws := rfl

/-! `State.pinRead` -/

@[simp] theorem State.pinRead_cfg (s : State) : s.pinRead.cfg = s.cfg := rfl
@[simp] theorem State.pinRead_sel (s : State) : s.pinRead.sel = s.sel := rfl
@[simp] theorem State.pinRead_cardType (s : State) : s.pinRead.cardType = s.cardType := rfl
@[simp] theorem State.pinRead_uid (s : State) : s.pinRead.uid = s.uid := rfl
@[simp] theorem State.pinRead_txBuf (s : State) : s.pinRead.txBuf = s.txBuf := rfl
@[simp] theorem State.pinRead_rxBuf (s : State) : s.pinRead.rxBuf = s.rxBuf := rfl
@[simp] theorem State.pinRead_rxCnt (s : State) : s.pinRead.rxCnt = s.rxCnt := rfl
@[simp] theorem State.pinRead_frame (s : State) : s.pinRead.frame = s.frame := rfl
@[simp] theorem State.pinRead_fwid (s : State) : s.pinRead.fwid = s.fwid := rfl
@[simp] theorem State.pinRead_found (s : State) : s.pinRead.found = s.found := rfl
@[simp] theorem State.pinRead_phase (s : State) : s.pinRead.phase = s.phase := rfl
@[simp] theorem State.pinRead_session (s : State) : s.pinRead.session = s.session := rfl
@[simp] theorem State.pinRead_current (s : State) : s.pinRead.current = s.current := rfl
@[simp] theorem State.pinRead_outcome (s : State) : s.pinRead.outcome = s.outcome := rfl
@[simp] theorem State.pinRead_operand (s : State) : s.pinRead.operand = s.operand := rfl
@[simp] theorem State.pinRead_program (s : State) : s.pinRead.program = s.program := rfl
@[simp] theorem State.pinRead_overlapping (s : State) : s.pinRead.overlapping = s.overlapping := rfl
@[simp] theorem State.pinRead_results (s : State) : s.pinRead.results = s.results := rfl
@[simp] theorem State.pinRead_history (s : State) : s.pinRead.history = s.history ++ [.level s.cfg.pin] := rfl
@[simp] theorem State.pinRead_writes (s : State) : s.pinRead.writes = s.writes := rfl
@[simp] theorem State.pinRead_reads (s : State) : s.pinRead.reads = s.reads := rfl
@[simp] theorem State.pinRead_levels (s : State) : s.pinRead.levels = s.levels.advance := rfl
@[simp] theorem State.pinRead_cancels (s : State) : s.pinRead.cancels = s.cancels := rfl
@[simp] theorem State.pinRead_freeDraws (s : State) : s.pinRead.freeDraws = s.freeDraws := rfl

/-! `State.cancelSample` -/

@[simp] theorem State.cancelSample_cfg (s : State) : s.cancelSample.cfg = s.cfg := rfl
@[simp] theorem State.cancelSample_sel (s : State) : s.cancelSample.sel = s.sel := rfl
@[simp] theorem State.cancelSample_cardType (s : State) : s.cancelSample.cardType = s.cardType := rfl
@[simp] theorem State.cancelSample_uid (s : State) : s.cancelSample.uid = s.uid := rfl
@[simp] theorem State.cancelSample_txBuf (s : State) : s.cancelSample.txBuf = s.txBuf := rfl
@[simp] theorem State.cancelSample_rxBuf (s : State) : s.cancelSample.rxBuf = s.rxBuf := rfl
@[simp] theorem State.cancelSample_rxCnt (s : State) : s.cancelSample.rxCnt = s.rxCnt := rfl
@[simp] theorem State.cancelSample_frame (s : State) : s.cancelSample.frame = s.frame := rfl
@[simp] theorem State.cancelSample_fwid (s : State) : s.cancelSample.fwid = s.fwid := rfl
@[simp] theorem State.cancelSample_found (s : State) : s.cancelSample.found = s.found := rfl
@[simp] theorem State.cancelSample_phase (s : State) : s.cancelSample.phase = s.phase := rfl
@[simp] theorem State.cancelSample_session (s : State) : s.cancelSample.session = s.session := rfl
@[simp] theorem State.cancelSample_current (s : State) : s.cancelSample.current = s.current := rfl
@[simp] theorem State.cancelSample_outcome (s : State) : s.cancelSample.outcome = s.outcome := rfl
@[simp] theorem State.cancelSample_operand (s : State) : s.cancelSample.operand = s.operand := rfl
@[simp] theorem State.cancelSample_program (s : State) : s.cancelSample.program = s.program := rfl
@[simp] theorem State.cancelSample_overlapping (s : State) : s.cancelSample.overlapping = s.overlapping := rfl
@[simp] theorem State.cancelSample_results (s : State) : s.cancelSample.results = s.results := rfl
@[simp] theorem State.cancelSample_history (s : State) : s.cancelSample.history = s.history := rfl
@[simp] theorem State.cancelSample_writes (s : State) : s.cancelSample.writes = s.writes := rfl
@[simp] theorem State.cancelSample_reads (s : State) : s.cancelSample.reads = s.reads := rfl
@[simp] theorem State.cancelSample_levels (s : State) : s.cancelSample.levels = s.levels := rfl
@[simp] theorem State.cancelSample_cancels (s : State) : s.cancelSample.cancels = s.cancels.advance := rfl
@[simp] theorem State.cancelSample_freeDraws (s : State) : s.cancelSample.freeDraws = s.freeDraws := rfl

/-! `State.delay` -/

@[simp] theorem State.delay_cfg (s : State) (ms : Nat) : (s.delay ms).cfg = s.cfg := rfl
@[simp] theorem State.delay_sel (s : State) (ms : Nat) : (s.delay ms).sel = s.sel := rfl
@[simp] theorem State.delay_cardType (s : State) (ms : Nat) : (s.delay ms).cardType = s.cardType := rfl
@[simp] theorem State.delay_uid (s : State) (ms : Nat) : (s.delay ms).uid = s.uid := rfl
@[simp] theorem State.delay_txBuf (s : State) (ms : Nat) : (s.delay ms).txBuf = s.txBuf := rfl
@[simp] theorem State.delay_rxBuf (s : State) (ms : Nat) : (s.delay ms).rxBuf = s.rxBuf := rfl
@[simp] theorem State.delay_rxCnt (s : State) (ms : Nat) : (s.delay ms).rxCnt = s.rxCnt := rfl
@[simp] theorem State.delay_frame (s : State) (ms : Nat) : (s.delay ms).frame = s.frame := rfl
@[simp] theorem State.delay_fwid (s : State) (ms : Nat) : (s.delay ms).fwid = s.fwid := rfl
@[simp] theorem State.delay_found (s : State) (ms : Nat) : (s.delay ms).found = s.found := rfl
@[simp] theorem State.delay_phase (s : State) (ms : Nat) : (s.delay ms).phase = s.phase := rfl
@[simp] theorem State.delay_session (s : State) (ms : Nat) : (s.delay ms).session = s.session := rfl
@[simp] theorem State.delay_current (s : State) (ms : Nat) : (s.delay ms).current = s.current := rfl
@[simp] theorem State.delay_outcome (s : State) (ms : Nat) : (s.delay ms).outcome = s.outcome := rfl
@[simp] theorem State.delay_operand (s : State) (ms : Nat) : (s.delay ms).operand = s.operand := rfl
@[simp] theorem State.delay_program (s : State) (ms : Nat) : (s.delay ms).program = s.program := rfl
@[simp] theorem State.delay_overlapping (s : State) (ms : Nat) : (s.delay ms).overlapping = s.overlapping := rfl
@[simp] theorem State.delay_results (s : State) (ms : Nat) : (s.delay ms).results = s.results := rfl
@[simp] theorem State.delay_history (s : State) (ms : Nat) : (s.delay ms).history = s.history ++ [.delay ms] := rfl
@[simp] theorem State.delay_writes (s : State) (ms : Nat) : (s.delay ms).writes = s.writes := rfl
@[simp] theorem State.delay_reads (s : State) (ms : Nat) : (s.delay ms).reads = s.reads := rfl
@[simp] theorem State.delay_levels (s : State) (ms : Nat) : (s.delay ms).levels = s.levels := rfl
@[simp] theorem State.delay_cancels (s : State) (ms : Nat) : (s.delay ms).cancels = s.cancels := rfl
@[simp] theorem State.delay_freeDraws (s : State) (ms : Nat) : (s.delay ms).freeDraws = s.freeDraws := rfl

/-! `State.closeSession` -/

@[simp] theorem State.closeSession_cfg (s : State) : s.closeSession.cfg = s.cfg := rfl
@[simp] theorem State.closeSession_sel (s : State) : s.closeSession.sel = s.sel := rfl
@[simp] theorem State.closeSession_cardType (s : State) : s.closeSession.cardType = s.cardType := rfl
@[simp] theorem State.closeSession_uid (s : State) : s.closeSession.uid = s.uid := rfl
@[simp] theorem State.closeSession_txBuf (s : State) : s.closeSession.txBuf = s.txBuf := rfl
@[simp] theorem State.closeSession_rxBuf (s : State) : s.closeSession.rxBuf = s.rxBuf := rfl
@[simp] theorem State.closeSession_rxCnt (s : State) : s.closeSession.rxCnt = s.rxCnt := rfl
@[simp] theorem State.closeSession_frame (s : State) : s.closeSession.frame = s.frame := rfl
@[simp] theorem State.closeSession_fwid (s : State) : s.closeSession.fwid = s.fwid := rfl
@[simp] theorem State.closeSession_found (s : State) : s.closeSession.found = s.found := rfl
@[simp] theorem State.closeSession_phase (s : State) : s.closeSession.phase = s.phase := rfl
@[simp] theorem State.closeSession_session (s : State) : s.closeSession.session = false := rfl
@[simp] theorem State.closeSession_current (s : State) : s.closeSession.current = s.current := rfl
@[simp] theorem State.closeSession_outcome (s : State) : s.closeSession.outcome = s.outcome := rfl
@[simp] theorem State.closeSession_operand (s : State) : s.closeSession.operand = s.operand := rfl
@[simp] theorem State.closeSession_program (s : State) : s.closeSession.program = s.program := rfl
@[simp] theorem State.closeSession_overlapping (s : State) : s.closeSession.overlapping = s.overlapping := rfl
@[simp] theorem State.closeSession_results (s : State) : s.closeSession.results = s.results := rfl
@[simp] theorem State.closeSession_history (s : State) : s.closeSession.history = s.history := rfl
@[simp] theorem State.closeSession_writes (s : State) : s.closeSession.writes = s.writes := rfl
@[simp] theorem State.closeSession_reads (s : State) : s.closeSession.reads = s.reads := rfl
@[simp] theorem State.closeSession_levels (s : State) : s.closeSession.levels = s.levels := rfl
@[simp] theorem State.closeSession_cancels (s : State) : s.closeSession.cancels = s.cancels := rfl
@[simp] theorem State.closeSession_freeDraws (s : State) : s.closeSession.freeDraws = s.freeDraws := rfl

/-! `State.loseRxBuf` -/

@[simp] theorem State.loseRxBuf_cfg (s : State) : s.loseRxBuf.cfg = s.cfg := rfl
@[simp] theorem State.loseRxBuf_sel (s : State) : s.loseRxBuf.sel = s.sel := rfl
@[simp] theorem State.loseRxBuf_cardType (s : State) : s.loseRxBuf.cardType = s.cardType := rfl
@[simp] theorem State.loseRxBuf_uid (s : State) : s.loseRxBuf.uid = s.uid := rfl
@[simp] theorem State.loseRxBuf_txBuf (s : State) : s.loseRxBuf.txBuf = s.txBuf := rfl
@[simp] theorem State.loseRxBuf_rxBuf (s : State) : s.loseRxBuf.rxBuf = Config.freeRxBuf s.freeDraws := rfl
@[simp] theorem State.loseRxBuf_rxCnt (s : State) : s.loseRxBuf.rxCnt = s.rxCnt := rfl
@[simp] theorem State.loseRxBuf_frame (s : State) : s.loseRxBuf.frame = s.frame := rfl
@[simp] theorem State.loseRxBuf_fwid (s : State) : s.loseRxBuf.fwid = s.fwid := rfl
@[simp] theorem State.loseRxBuf_found (s : State) : s.loseRxBuf.found = s.found := rfl
@[simp] theorem State.loseRxBuf_phase (s : State) : s.loseRxBuf.phase = s.phase := rfl
@[simp] theorem State.loseRxBuf_session (s : State) : s.loseRxBuf.session = s.session := rfl
@[simp] theorem State.loseRxBuf_current (s : State) : s.loseRxBuf.current = s.current := rfl
@[simp] theorem State.loseRxBuf_outcome (s : State) : s.loseRxBuf.outcome = s.outcome := rfl
@[simp] theorem State.loseRxBuf_operand (s : State) : s.loseRxBuf.operand = s.operand := rfl
@[simp] theorem State.loseRxBuf_program (s : State) : s.loseRxBuf.program = s.program := rfl
@[simp] theorem State.loseRxBuf_overlapping (s : State) : s.loseRxBuf.overlapping = s.overlapping := rfl
@[simp] theorem State.loseRxBuf_results (s : State) : s.loseRxBuf.results = s.results := rfl
@[simp] theorem State.loseRxBuf_history (s : State) : s.loseRxBuf.history = s.history := rfl
@[simp] theorem State.loseRxBuf_writes (s : State) : s.loseRxBuf.writes = s.writes := rfl
@[simp] theorem State.loseRxBuf_reads (s : State) : s.loseRxBuf.reads = s.reads := rfl
@[simp] theorem State.loseRxBuf_levels (s : State) : s.loseRxBuf.levels = s.levels := rfl
@[simp] theorem State.loseRxBuf_cancels (s : State) : s.loseRxBuf.cancels = s.cancels := rfl
@[simp] theorem State.loseRxBuf_freeDraws (s : State) : s.loseRxBuf.freeDraws = s.freeDraws + 1 := rfl

/-! `State.loadCommand` -/

@[simp] theorem State.loadCommand_cfg (s : State) (c : Byte) : (s.loadCommand c).cfg = s.cfg := rfl
@[simp] theorem State.loadCommand_sel (s : State) (c : Byte) : (s.loadCommand c).sel = s.sel := rfl
@[simp] theorem State.loadCommand_cardType (s : State) (c : Byte) : (s.loadCommand c).cardType = s.cardType := rfl
@[simp] theorem State.loadCommand_uid (s : State) (c : Byte) : (s.loadCommand c).uid = s.uid := rfl
@[simp] theorem State.loadCommand_txBuf (s : State) (c : Byte) : (s.loadCommand c).txBuf = loadRegs s.txBuf (commandFrame c) := rfl
@[simp] theorem State.loadCommand_rxBuf (s : State) (c : Byte) : (s.loadCommand c).rxBuf = s.rxBuf := rfl
@[simp] theorem State.loadCommand_rxCnt (s : State) (c : Byte) : (s.loadCommand c).rxCnt = s.rxCnt := rfl
@[simp] theorem State.loadCommand_frame (s : State) (c : Byte) : (s.loadCommand c).frame = s.frame := rfl
@[simp] theorem State.loadCommand_fwid (s : State) (c : Byte) : (s.loadCommand c).fwid = s.fwid := rfl
@[simp] theorem State.loadCommand_found (s : State) (c : Byte) : (s.loadCommand c).found = s.found := rfl
@[simp] theorem State.loadCommand_phase (s : State) (c : Byte) : (s.loadCommand c).phase = s.phase := rfl
@[simp] theorem State.loadCommand_session (s : State) (c : Byte) : (s.loadCommand c).session = s.session := rfl
@[simp] theorem State.loadCommand_current (s : State) (c : Byte) : (s.loadCommand c).current = s.current := rfl
@[simp] theorem State.loadCommand_outcome (s : State) (c : Byte) : (s.loadCommand c).outcome = s.outcome := rfl
@[simp] theorem State.loadCommand_operand (s : State) (c : Byte) : (s.loadCommand c).operand = s.operand := rfl
@[simp] theorem State.loadCommand_program (s : State) (c : Byte) : (s.loadCommand c).program = s.program := rfl
@[simp] theorem State.loadCommand_overlapping (s : State) (c : Byte) : (s.loadCommand c).overlapping = s.overlapping := rfl
@[simp] theorem State.loadCommand_results (s : State) (c : Byte) : (s.loadCommand c).results = s.results := rfl
@[simp] theorem State.loadCommand_history (s : State) (c : Byte) : (s.loadCommand c).history = s.history := rfl
@[simp] theorem State.loadCommand_writes (s : State) (c : Byte) : (s.loadCommand c).writes = s.writes := rfl
@[simp] theorem State.loadCommand_reads (s : State) (c : Byte) : (s.loadCommand c).reads = s.reads := rfl
@[simp] theorem State.loadCommand_levels (s : State) (c : Byte) : (s.loadCommand c).levels = s.levels := rfl
@[simp] theorem State.loadCommand_cancels (s : State) (c : Byte) : (s.loadCommand c).cancels = s.cancels := rfl
@[simp] theorem State.loadCommand_freeDraws (s : State) (c : Byte) : (s.loadCommand c).freeDraws = s.freeDraws := rfl

/-! `State.storeResponse` -/

@[simp] theorem State.storeResponse_cfg (s : State) (raw : List Byte) : (s.storeResponse raw).cfg = s.cfg := rfl
@[simp] theorem State.storeResponse_sel (s : State) (raw : List Byte) : (s.storeResponse raw).sel = s.sel := rfl
@[simp] theorem State.storeResponse_cardType (s : State) (raw : List Byte) : (s.storeResponse raw).cardType = s.cardType := rfl
@[simp] theorem State.storeResponse_uid (s : State) (raw : List Byte) : (s.storeResponse raw).uid = s.uid := rfl
@[simp] theorem State.storeResponse_txBuf (s : State) (raw : List Byte) : (s.storeResponse raw).txBuf = s.txBuf := rfl
@[simp] theorem State.storeResponse_rxBuf (s : State) (raw : List Byte) : (s.storeResponse raw).rxBuf = loadRegs (Config.freeRxBuf s.freeDraws) raw := rfl
@[simp] theorem State.storeResponse_rxCnt (s : State) (raw : List Byte) : (s.storeResponse raw).rxCnt = raw.length := rfl
@[simp] theorem State.storeResponse_frame (s : State) (raw : List Byte) : (s.storeResponse raw).frame = s.frame := rfl
@[simp] theorem State.storeResponse_fwid (s : State) (raw : List Byte) : (s.storeResponse raw).fwid = s.fwid := rfl
@[simp] theorem State.storeResponse_found (s : State) (raw : List Byte) : (s.storeResponse raw).found = s.found := rfl
@[simp] theorem State.storeResponse_phase (s : State) (raw : List Byte) : (s.storeResponse raw).phase = s.phase := rfl
@[simp] theorem State.storeResponse_session (s : State) (raw : List Byte) : (s.storeResponse raw).session = s.session := rfl
@[simp] theorem State.storeResponse_current (s : State) (raw : List Byte) : (s.storeResponse raw).current = s.current := rfl
@[simp] theorem State.storeResponse_outcome (s : State) (raw : List Byte) : (s.storeResponse raw).outcome = s.outcome := rfl
@[simp] theorem State.storeResponse_operand (s : State) (raw : List Byte) : (s.storeResponse raw).operand = s.operand := rfl
@[simp] theorem State.storeResponse_program (s : State) (raw : List Byte) : (s.storeResponse raw).program = s.program := rfl
@[simp] theorem State.storeResponse_overlapping (s : State) (raw : List Byte) : (s.storeResponse raw).overlapping = s.overlapping := rfl
@[simp] theorem State.storeResponse_results (s : State) (raw : List Byte) : (s.storeResponse raw).results = s.results := rfl
@[simp] theorem State.storeResponse_history (s : State) (raw : List Byte) : (s.storeResponse raw).history = s.history := rfl
@[simp] theorem State.storeResponse_writes (s : State) (raw : List Byte) : (s.storeResponse raw).writes = s.writes := rfl
@[simp] theorem State.storeResponse_reads (s : State) (raw : List Byte) : (s.storeResponse raw).reads = s.reads := rfl
@[simp] theorem State.storeResponse_levels (s : State) (raw : List Byte) : (s.storeResponse raw).levels = s.levels := rfl
@[simp] theorem State.storeResponse_cancels (s : State) (raw : List Byte) : (s.storeResponse raw).cancels = s.cancels := rfl
@[simp] theorem State.storeResponse_freeDraws (s : State) (raw : List Byte) : (s.storeResponse raw).freeDraws = s.freeDraws + 1 := rfl

/-! `State.deliver` -/

@[simp] theorem State.deliver_cfg (s : State) (r : Result) : (s.deliver r).cfg = s.cfg := rfl
@[simp] theorem State.deliver_sel (s : State) (r : Result) : (s.deliver r).sel = s.sel := rfl
@[simp] theorem State.deliver_cardType (s : State) (r : Result) : (s.deliver r).cardType = s.cardType := rfl
@[simp] theorem State.deliver_uid (s : State) (r : Result) : (s.deliver r).uid = s.uid := rfl
@[simp] theorem State.deliver_txBuf (s : State) (r : Result) : (s.deliver r).txBuf = s.txBuf := rfl
@[simp] theorem State.deliver_rxBuf (s : State) (r : Result) : (s.deliver r).rxBuf = s.rxBuf := rfl
@[simp] theorem State.deliver_rxCnt (s : State) (r : Result) : (s.deliver r).rxCnt = s.rxCnt := rfl
@[simp] theorem State.deliver_frame (s : State) (r : Result) : (s.deliver r).frame = none := rfl
@[simp] theorem State.deliver_fwid (s : State) (r : Result) : (s.deliver r).fwid = none := rfl
@[simp] theorem State.deliver_found (s : State) (r : Result) : (s.deliver r).found = none := rfl
@[simp] theorem State.deliver_phase (s : State) (r : Result) : (s.deliver r).phase = .idle := rfl
@[simp] theorem State.deliver_session (s : State) (r : Result) : (s.deliver r).session = s.session := rfl
@[simp] theorem State.deliver_current (s : State) (r : Result) : (s.deliver r).current = none := rfl
@[simp] theorem State.deliver_outcome (s : State) (r : Result) : (s.deliver r).outcome = none := rfl
@[simp] theorem State.deliver_operand (s : State) (r : Result) : (s.deliver r).operand = s.operand := rfl
@[simp] theorem State.deliver_program (s : State) (r : Result) : (s.deliver r).program = s.program := rfl
@[simp] theorem State.deliver_overlapping (s : State) (r : Result) : (s.deliver r).overlapping = s.overlapping := rfl
@[simp] theorem State.deliver_results (s : State) (r : Result) : (s.deliver r).results = s.results ++ [⟨s.history.length, r⟩] := rfl
@[simp] theorem State.deliver_history (s : State) (r : Result) : (s.deliver r).history = s.history := rfl
@[simp] theorem State.deliver_writes (s : State) (r : Result) : (s.deliver r).writes = s.writes := rfl
@[simp] theorem State.deliver_reads (s : State) (r : Result) : (s.deliver r).reads = s.reads := rfl
@[simp] theorem State.deliver_levels (s : State) (r : Result) : (s.deliver r).levels = s.levels := rfl
@[simp] theorem State.deliver_cancels (s : State) (r : Result) : (s.deliver r).cancels = s.cancels := rfl
@[simp] theorem State.deliver_freeDraws (s : State) (r : Result) : (s.deliver r).freeDraws = s.freeDraws := rfl

/-! `State.raiseError` -/

@[simp] theorem State.raiseError_cfg (s : State) (e : ErrorKind) : (s.raiseError e).cfg = s.cfg := rfl
@[simp] theorem State.raiseError_sel (s : State) (e : ErrorKind) : (s.raiseError e).sel = s.sel := rfl
@[simp] theorem State.raiseError_cardType (s : State) (e : ErrorKind) : (s.raiseError e).cardType = s.cardType := rfl
@[simp] theorem State.raiseError_uid (s : State) (e : ErrorKind) : (s.raiseError e).uid = s.uid := rfl
@[simp] theorem State.raiseError_txBuf (s : State) (e : ErrorKind) : (s.raiseError e).txBuf = s.txBuf := rfl
@[simp] theorem State.raiseError_rxBuf (s : State) (e : ErrorKind) : (s.raiseError e).rxBuf = s.rxBuf := rfl
@[simp] theorem State.raiseError_rxCnt (s : State) (e : ErrorKind) : (s.raiseError e).rxCnt = s.rxCnt := rfl
@[simp] theorem State.raiseError_frame (s : State) (e : ErrorKind) : (s.raiseError e).frame = none := rfl
@[simp] theorem State.raiseError_fwid (s : State) (e : ErrorKind) : (s.raiseError e).fwid = none := rfl
@[simp] theorem State.raiseError_found (s : State) (e : ErrorKind) : (s.raiseError e).found = none := rfl
@[simp] theorem State.raiseError_phase (s : State) (e : ErrorKind) : (s.raiseError e).phase = .idle := rfl
@[simp] theorem State.raiseError_session (s : State) (e : ErrorKind) : (s.raiseError e).session = false := rfl
@[simp] theorem State.raiseError_current (s : State) (e : ErrorKind) : (s.raiseError e).current = none := rfl
@[simp] theorem State.raiseError_outcome (s : State) (e : ErrorKind) : (s.raiseError e).outcome = none := rfl
@[simp] theorem State.raiseError_operand (s : State) (e : ErrorKind) : (s.raiseError e).operand = s.operand := rfl
@[simp] theorem State.raiseError_program (s : State) (e : ErrorKind) : (s.raiseError e).program = s.program := rfl
@[simp] theorem State.raiseError_overlapping (s : State) (e : ErrorKind) : (s.raiseError e).overlapping = s.overlapping := rfl
@[simp] theorem State.raiseError_results (s : State) (e : ErrorKind) : (s.raiseError e).results = s.results ++ [⟨s.history.length, .err e⟩] := rfl
@[simp] theorem State.raiseError_history (s : State) (e : ErrorKind) : (s.raiseError e).history = s.history := rfl
@[simp] theorem State.raiseError_writes (s : State) (e : ErrorKind) : (s.raiseError e).writes = s.writes := rfl
@[simp] theorem State.raiseError_reads (s : State) (e : ErrorKind) : (s.raiseError e).reads = s.reads := rfl
@[simp] theorem State.raiseError_levels (s : State) (e : ErrorKind) : (s.raiseError e).levels = s.levels := rfl
@[simp] theorem State.raiseError_cancels (s : State) (e : ErrorKind) : (s.raiseError e).cancels = s.cancels := rfl
@[simp] theorem State.raiseError_freeDraws (s : State) (e : ErrorKind) : (s.raiseError e).freeDraws = s.freeDraws := rfl

/-! `State.refuse` -/

@[simp] theorem State.refuse_cfg (s : State) : s.refuse.cfg = s.cfg := rfl
@[simp] theorem State.refuse_sel (s : State) : s.refuse.sel = s.sel := rfl
@[simp] theorem State.refuse_cardType (s : State) : s.refuse.cardType = s.cardType := rfl
@[simp] theorem State.refuse_uid (s : State) : s.refuse.uid = s.uid := rfl
@[simp] theorem State.refuse_txBuf (s : State) : s.refuse.txBuf = s.txBuf := rfl
@[simp] theorem State.refuse_rxBuf (s : State) : s.refuse.rxBuf = s.rxBuf := rfl
@[simp] theorem State.refuse_rxCnt (s : State) : s.refuse.rxCnt = s.rxCnt := rfl
@[simp] theorem State.refuse_frame (s : State) : s.refuse.frame = s.frame := rfl
@[simp] theorem State.refuse_fwid (s : State) : s.refuse.fwid = s.fwid := rfl
@[simp] theorem State.refuse_found (s : State) : s.refuse.found = s.found := rfl
@[simp] theorem State.refuse_phase (s : State) : s.refuse.phase = s.phase := rfl
@[simp] theorem State.refuse_session (s : State) : s.refuse.session = s.session := rfl
@[simp] theorem State.refuse_current (s : State) : s.refuse.current = s.current := rfl
@[simp] theorem State.refuse_outcome (s : State) : s.refuse.outcome = s.outcome := rfl
@[simp] theorem State.refuse_operand (s : State) : s.refuse.operand = s.operand := rfl
@[simp] theorem State.refuse_program (s : State) : s.refuse.program = s.program := rfl
@[simp] theorem State.refuse_overlapping (s : State) : s.refuse.overlapping = s.overlapping := rfl
@[simp] theorem State.refuse_results (s : State) : s.refuse.results = s.results ++ [⟨s.history.length, .err .refused⟩] := rfl
@[simp] theorem State.refuse_history (s : State) : s.refuse.history = s.history := rfl
@[simp] theorem State.refuse_writes (s : State) : s.refuse.writes = s.writes := rfl
@[simp] theorem State.refuse_reads (s : State) : s.refuse.reads = s.reads := rfl
@[simp] theorem State.refuse_levels (s : State) : s.refuse.levels = s.levels := rfl
@[simp] theorem State.refuse_cancels (s : State) : s.refuse.cancels = s.cancels := rfl
@[simp] theorem State.refuse_freeDraws (s : State) : s.refuse.freeDraws = s.freeDraws := rfl

/-! `State.endWith` -/

@[simp] theorem State.endWith_cfg (s : State) (r : Result) : (s.endWith r).cfg = s.cfg := rfl
@[simp] theorem State.endWith_sel (s : State) (r : Result) : (s.endWith r).sel = s.sel := rfl
@[simp] theorem State.endWith_cardType (s : State) (r : Result) : (s.endWith r).cardType = s.cardType := rfl
@[simp] theorem State.endWith_uid (s : State) (r : Result) : (s.endWith r).uid = s.uid := rfl
@[simp] theorem State.endWith_txBuf (s : State) (r : Result) : (s.endWith r).txBuf = s.txBuf := rfl
@[simp] theorem State.endWith_rxBuf (s : State) (r : Result) : (s.endWith r).rxBuf = s.rxBuf := rfl
@[simp] theorem State.endWith_rxCnt (s : State) (r : Result) : (s.endWith r).rxCnt = s.rxCnt := rfl
@[simp] theorem State.endWith_frame (s : State) (r : Result) : (s.endWith r).frame = s.frame := rfl
@[simp] theorem State.endWith_fwid (s : State) (r : Result) : (s.endWith r).fwid = s.fwid := rfl
@[simp] theorem State.endWith_found (s : State) (r : Result) : (s.endWith r).found = s.found := rfl
@[simp] theorem State.endWith_phase (s : State) (r : Result) : (s.endWith r).phase = .done := rfl
@[simp] theorem State.endWith_session (s : State) (r : Result) : (s.endWith r).session = s.session := rfl
@[simp] theorem State.endWith_current (s : State) (r : Result) : (s.endWith r).current = s.current := rfl
@[simp] theorem State.endWith_outcome (s : State) (r : Result) : (s.endWith r).outcome = some r := rfl
@[simp] theorem State.endWith_operand (s : State) (r : Result) : (s.endWith r).operand = s.operand := rfl
@[simp] theorem State.endWith_program (s : State) (r : Result) : (s.endWith r).program = s.program := rfl
@[simp] theorem State.endWith_overlapping (s : State) (r : Result) : (s.endWith r).overlapping = s.overlapping := rfl
@[simp] theorem State.endWith_results (s : State) (r : Result) : (s.endWith r).results = s.results := rfl
@[simp] theorem State.endWith_history (s : State) (r : Result) : (s.endWith r).history = s.history := rfl
@[simp] theorem State.endWith_writes (s : State) (r : Result) : (s.endWith r).writes = s.writes := rfl
@[simp] theorem State.endWith_reads (s : State) (r : Result) : (s.endWith r).reads = s.reads := rfl
@[simp] theorem State.endWith_levels (s : State) (r : Result) : (s.endWith r).levels = s.levels := rfl
@[simp] theorem State.endWith_cancels (s : State) (r : Result) : (s.endWith r).cancels = s.cancels := rfl
@[simp] theorem State.endWith_freeDraws (s : State) (r : Result) : (s.endWith r).freeDraws = s.freeDraws := rfl

/-! `State.keepWaiting` -/

@[simp] theorem State.keepWaiting_cfg (s : State) (i : Instr) (ms : Nat) : (s.keepWaiting i ms).cfg = s.cfg := rfl
@[simp] theorem State.keepWaiting_sel (s : State) (i : Instr) (ms : Nat) : (s.keepWaiting i ms).sel = s.sel := rfl
@[simp] theorem State.keepWaiting_cardType (s : State) (i : Instr) (ms : Nat) : (s.keepWaiting i ms).cardType = s.cardType := rfl
@[simp] theorem State.keepWaiting_uid (s : State) (i : Instr) (ms : Nat) : (s.keepWaiting i ms).uid = s.uid := rfl
@[simp] theorem State.keepWaiting_txBuf (s : State) (i : Instr) (ms : Nat) : (s.keepWaiting i ms).txBuf = s.txBuf := rfl
@[simp] theorem State.keepWaiting_rxBuf (s : State) (i : Instr) (ms : Nat) : (s.keepWaiting i ms).rxBuf = s.rxBuf := rfl
@[simp] theorem State.keepWaiting_rxCnt (s : State) (i : Instr) (ms : Nat) : (s.keepWaiting i ms).rxCnt = s.rxCnt := rfl
@[simp] theorem State.keepWaiting_frame (s : State) (i : Instr) (ms : Nat) : (s.keepWaiting i ms).frame = s.frame := rfl
@[simp] theorem State.keepWaiting_fwid (s : State) (i : Instr) (ms : Nat) : (s.keepWaiting i ms).fwid = s.fwid := rfl
@[simp] theorem State.keepWaiting_found (s : State) (i : Instr) (ms : Nat) : (s.keepWaiting i ms).found = s.found := rfl
@[simp] theorem State.keepWaiting_phase (s : State) (i : Instr) (ms : Nat) : (s.keepWaiting i ms).phase = .poll := rfl
@[simp] theorem State.keepWaiting_session (s : State) (i : Instr) (ms : Nat) : (s.keepWaiting i ms).session = s.session := rfl
@[simp] theorem State.keepWaiting_current (s : State) (i : Instr) (ms : Nat) : (s.keepWaiting i ms).current = some i := rfl
@[simp] theorem State.keepWaiting_outcome (s : State) (i : Instr) (ms : Nat) : (s.keepWaiting i ms).outcome = s.outcome := rfl
@[simp] theorem State.keepWaiting_operand (s : State) (i : Instr) (ms : Nat) : (s.keepWaiting i ms).operand = s.operand := rfl
@[simp] theorem State.keepWaiting_program (s : State) (i : Instr) (ms : Nat) : (s.keepWaiting i ms).program = s.program := rfl
@[simp] theorem State.keepWaiting_overlapping (s : State) (i : Instr) (ms : Nat) : (s.keepWaiting i ms).overlapping = s.overlapping := rfl
@[simp] theorem State.keepWaiting_results (s : State) (i : Instr) (ms : Nat) : (s.keepWaiting i ms).results = s.results := rfl
@[simp] theorem State.keepWaiting_history (s : State) (i : Instr) (ms : Nat) : (s.keepWaiting i ms).history = s.history ++ [.delay ms] := rfl
@[simp] theorem State.keepWaiting_writes (s : State) (i : Instr) (ms : Nat) : (s.keepWaiting i ms).writes = s.writes := rfl
@[simp] theorem State.keepWaiting_reads (s : State) (i : Instr) (ms : Nat) : (s.keepWaiting i ms).reads = s.reads := rfl
@[simp] theorem State.keepWaiting_levels (s : State) (i : Instr) (ms : Nat) : (s.keepWaiting i ms).levels = s.levels := rfl
@[simp] theorem State.keepWaiting_cancels (s : State) (i : Instr) (ms : Nat) : (s.keepWaiting i ms).cancels = s.cancels := rfl
@[simp] theorem State.keepWaiting_freeDraws (s : State) (i : Instr) (ms : Nat) : (s.keepWaiting i ms).freeDraws = s.freeDraws := rfl

end Sys2Proof.Machine
end

