-- ==== Sys2Proof/Laws/Ops.lean ====
section
/-! SUPPORT. What each shared operation can do, once: the exchange, the select, the poll, the firmware read. -/

namespace Sys2Proof.Machine

/-- At rest, BUSY is 0 and a host operation runs. -/
theorem whenIdle_of_idle {s : State} (h : s.phase = .idle) (run : State → State) :
    whenIdle s run = .next (run s) := by
  simp [whenIdle, State.busy, h]

theorem whenIdle_of_busy {s : State} (h : s.busy = true) (run : State → State) :
    whenIdle s run = .next s.refuse := by
  simp [whenIdle, h]

/-- A host operation's meaning always answers a next state: it is refused, or it runs. -/
theorem whenIdle_cases {s t : State} {run : State → State} (h : whenIdle s run = .next t) :
    (s.busy = true ∧ t = s.refuse) ∨ (s.phase = .idle ∧ t = run s) := by
  by_cases hb : s.busy = true
  · rw [whenIdle_of_busy hb] at h
    cases h
    exact .inl ⟨hb, rfl⟩
  · have hi : s.phase = .idle := by simpa [State.busy] using hb
    rw [whenIdle_of_idle hi] at h
    cases h
    exact .inr ⟨hi, rfl⟩

/-- At rest, handing over a result adds the result and changes nothing else. -/
theorem State.Quiet.deliver {s : State} (h : s.Quiet) (r : Result) : s.deliver r = s.withResult r := by
  obtain ⟨h1, h2, h3, h4, h5, h6, h7⟩ := h
  cases s
  simp_all [State.deliver, State.withResult]

theorem State.Quiet.raiseError {s : State} (h : s.Quiet) (e : ErrorKind) :
    s.raiseError e = s.withResult (.err e) := by
  obtain ⟨h1, h2, h3, h4, h5, h6, h7⟩ := h
  cases s
  simp_all [State.raiseError, State.closeSession, State.deliver, State.withResult]

theorem State.Quiet.conclude {s : State} (h : s.Quiet) (r : Except ErrorKind Value) :
    s.conclude r = s.withResult (resultOf r) := by
  cases r
  · exact h.raiseError _
  · exact h.deliver _

/-- Rest is about the sequencer's own fields alone. -/
theorem State.Quiet.congr {s t : State} (h : s.Quiet) (hp : t.phase = s.phase) (hs : t.session = s.session)
    (hc : t.current = s.current) (ho : t.outcome = s.outcome) (hf : t.frame = s.frame)
    (hw : t.fwid = s.fwid) (hx : t.found = s.found) : t.Quiet :=
  ⟨hp ▸ h.idle, hs ▸ h.noSession, hc ▸ h.noCurrent, ho ▸ h.noOutcome, hf ▸ h.noFrame, hw ▸ h.noFwid,
    hx ▸ h.noFound⟩

/-- R34: only GET_FIRMWARE goes from a failed exchange to DONE. -/
theorem phaseAfterError_eq (c : Option Instr) :
    phaseAfterError c = if c = some .getFirmware then .done else .commit := by
  unfold phaseAfterError
  split <;> simp_all

/-- R214: what is left of RXBUF, by whether the operation that used it has failed. -/
def State.afterVerdict {α : Type} (r : Except ErrorKind α) (s : State) : State :=
  match r with
  | .ok _ => s
  | .error _ => s.loseRxBuf

theorem State.afterVerdict_cases {α : Type} (r : Except ErrorKind α) (s : State) :
    s.afterVerdict r = s ∨ s.afterVerdict r = s.loseRxBuf := by
  cases r
  · exact .inr rfl
  · exact .inl rfl

theorem State.Quiet.afterVerdict {α : Type} {s : State} (h : s.Quiet) (r : Except ErrorKind α) :
    (s.afterVerdict r).Quiet := by
  cases r
  · exact h.congr rfl rfl rfl rfl rfl rfl rfl
  · exact h

/-- R71: the three ways an exchange goes. -/
theorem exchange_cases (s : State) (cmd : Byte) (minLen : Nat) :
    (s.writeAnswer = .ioError ∧
      exchange cmd minLen s = (.error .ioError, (s.afterWrite cmd).closeSession.loseRxBuf)) ∨
    (s.writeAnswer = .ok ∧ s.readAnswer = .ioError ∧
      exchange cmd minLen s = (.error .ioError, (s.afterAsking cmd).closeSession.loseRxBuf)) ∨
    (∃ raw, s.writeAnswer = .ok ∧ s.readAnswer = .bytes raw ∧ raw.length ≤ 15 ∧
      exchange cmd minLen s =
        (parseFrame raw minLen, (s.afterRead cmd raw).closeSession.afterVerdict (parseFrame raw minLen))) := by
  have hw : (s.loadCommand cmd).writeAnswer = s.writeAnswer := rfl
  have hr : ((s.loadCommand cmd).busWrite.delay tTurnaround).readAnswer = s.readAnswer := rfl
  have hx : (s.loadCommand cmd).busWrite.closeSession = (s.afterWrite cmd).closeSession := by
    simp [State.busWrite, State.closeSession, State.afterWrite, State.loadCommand,
      loadRegs_commandFrame, State.txBytes]
  have hy : ((s.loadCommand cmd).busWrite.delay tTurnaround).busRead.closeSession =
      (s.afterAsking cmd).closeSession := by
    simp [State.busWrite, State.busRead, State.delay, State.emit, State.closeSession, State.afterAsking,
      State.loadCommand, loadRegs_commandFrame, State.txBytes]
  cases h : s.writeAnswer with
  | ioError =>
    left
    refine ⟨rfl, ?_⟩
    simp only [exchange, hw, h, hx]
  | ok =>
    right
    cases h' : s.readAnswer with
    | ioError =>
      left
      refine ⟨rfl, rfl, ?_⟩
      simp only [exchange, hw, h, hr, h', hy]
    | bytes raw =>
      right
      have hfit := readAnswer_fits h'
      refine ⟨raw, rfl, rfl, hfit, ?_⟩
      have hz : (((s.loadCommand cmd).busWrite.delay tTurnaround).busRead.storeResponse raw).closeSession =
          (s.afterRead cmd raw).closeSession :=
        congrArg (State.storeResponse raw) hy
      have hrx : (s.afterRead cmd raw).closeSession.rxBytes = raw := rxBytes_storeResponse _ raw hfit
      simp only [exchange, hw, h, hr, h', hz, hrx]
      cases parseFrame raw minLen <;> rfl

/-- R31: after the exchange RXBUF holds the read. -/
theorem rxBytes_afterRead (s : State) (cmd : Byte) (raw : List Byte) (h : raw.length ≤ 15) :
    (s.afterRead cmd raw).rxBytes = raw :=
  readRegs_loadRegs _ raw h

/-- R90: any STATUS but 0x00. -/
theorem selectOutcome_of_ne {status : Byte} (h : status ≠ 0x00) (uid : List Byte) (type : Option Byte) :
    selectOutcome status uid type = .ok .noTag :=
  if_pos h

/-- R140: what a select makes of the bytes it read. -/
def selectVerdict (raw : List Byte) : Except ErrorKind SelectResult :=
  match parseFrame raw minLenSelect with
  | .error e => .error e
  | .ok f => selectReading f

/-- The record after a select (R140, R25). -/
def State.recordOf (r : Except ErrorKind SelectResult) (s : State) : State :=
  match r with
  | .ok (.selected cardType uid) => s.setRecord cardType uid
  | .ok .noTag => s.clearRecord
  | .error _ => s.clearRecord

/-! The fields neither of the two touches. -/

@[simp] theorem State.afterVerdict_cfg {α : Type} (r : Except ErrorKind α) (s : State) :
    (s.afterVerdict r).cfg = s.cfg := by cases r <;> rfl
@[simp] theorem State.afterVerdict_sel {α : Type} (r : Except ErrorKind α) (s : State) :
    (s.afterVerdict r).sel = s.sel := by cases r <;> rfl
@[simp] theorem State.afterVerdict_cardType {α : Type} (r : Except ErrorKind α) (s : State) :
    (s.afterVerdict r).cardType = s.cardType := by cases r <;> rfl
@[simp] theorem State.afterVerdict_uid {α : Type} (r : Except ErrorKind α) (s : State) :
    (s.afterVerdict r).uid = s.uid := by cases r <;> rfl
@[simp] theorem State.afterVerdict_txBuf {α : Type} (r : Except ErrorKind α) (s : State) :
    (s.afterVerdict r).txBuf = s.txBuf := by cases r <;> rfl
@[simp] theorem State.afterVerdict_rxCnt {α : Type} (r : Except ErrorKind α) (s : State) :
    (s.afterVerdict r).rxCnt = s.rxCnt := by cases r <;> rfl
@[simp] theorem State.afterVerdict_frame {α : Type} (r : Except ErrorKind α) (s : State) :
    (s.afterVerdict r).frame = s.frame := by cases r <;> rfl
@[simp] theorem State.afterVerdict_fwid {α : Type} (r : Except ErrorKind α) (s : State) :
    (s.afterVerdict r).fwid = s.fwid := by cases r <;> rfl
@[simp] theorem State.afterVerdict_found {α : Type} (r : Except ErrorKind α) (s : State) :
    (s.afterVerdict r).found = s.found := by cases r <;> rfl
@[simp] theorem State.afterVerdict_phase {α : Type} (r : Except ErrorKind α) (s : State) :
    (s.afterVerdict r).phase = s.phase := by cases r <;> rfl
@[simp] theorem State.afterVerdict_session {α : Type} (r : Except ErrorKind α) (s : State) :
    (s.afterVerdict r).session = s.session := by cases r <;> rfl
@[simp] theorem State.afterVerdict_current {α : Type} (r : Except ErrorKind α) (s : State) :
    (s.afterVerdict r).current = s.current := by cases r <;> rfl
@[simp] theorem State.afterVerdict_outcome {α : Type} (r : Except ErrorKind α) (s : State) :
    (s.afterVerdict r).outcome = s.outcome := by cases r <;> rfl
@[simp] theorem State.afterVerdict_operand {α : Type} (r : Except ErrorKind α) (s : State) :
    (s.afterVerdict r).operand = s.operand := by cases r <;> rfl
@[simp] theorem State.afterVerdict_program {α : Type} (r : Except ErrorKind α) (s : State) :
    (s.afterVerdict r).program = s.program := by cases r <;> rfl
@[simp] theorem State.afterVerdict_overlapping {α : Type} (r : Except ErrorKind α) (s : State) :
    (s.afterVerdict r).overlapping = s.overlapping := by cases r <;> rfl
@[simp] theorem State.afterVerdict_results {α : Type} (r : Except ErrorKind α) (s : State) :
    (s.afterVerdict r).results = s.results := by cases r <;> rfl
@[simp] theorem State.afterVerdict_history {α : Type} (r : Except ErrorKind α) (s : State) :
    (s.afterVerdict r).history = s.history := by cases r <;> rfl
@[simp] theorem State.afterVerdict_writes {α : Type} (r : Except ErrorKind α) (s : State) :
    (s.afterVerdict r).writes = s.writes := by cases r <;> rfl
@[simp] theorem State.afterVerdict_reads {α : Type} (r : Except ErrorKind α) (s : State) :
    (s.afterVerdict r).reads = s.reads := by cases r <;> rfl
@[simp] theorem State.afterVerdict_levels {α : Type} (r : Except ErrorKind α) (s : State) :
    (s.afterVerdict r).levels = s.levels := by cases r <;> rfl
@[simp] theorem State.afterVerdict_cancels {α : Type} (r : Except ErrorKind α) (s : State) :
    (s.afterVerdict r).cancels = s.cancels := by cases r <;> rfl
@[simp] theorem State.recordOf_cfg (r : Except ErrorKind SelectResult) (s : State) :
    (s.recordOf r).cfg = s.cfg := by unfold State.recordOf; split <;> rfl
@[simp] theorem State.recordOf_txBuf (r : Except ErrorKind SelectResult) (s : State) :
    (s.recordOf r).txBuf = s.txBuf := by unfold State.recordOf; split <;> rfl
@[simp] theorem State.recordOf_rxBuf (r : Except ErrorKind SelectResult) (s : State) :
    (s.recordOf r).rxBuf = s.rxBuf := by unfold State.recordOf; split <;> rfl
@[simp] theorem State.recordOf_rxCnt (r : Except ErrorKind SelectResult) (s : State) :
    (s.recordOf r).rxCnt = s.rxCnt := by unfold State.recordOf; split <;> rfl
@[simp] theorem State.recordOf_frame (r : Except ErrorKind SelectResult) (s : State) :
    (s.recordOf r).frame = s.frame := by unfold State.recordOf; split <;> rfl
@[simp] theorem State.recordOf_fwid (r : Except ErrorKind SelectResult) (s : State) :
    (s.recordOf r).fwid = s.fwid := by unfold State.recordOf; split <;> rfl
@[simp] theorem State.recordOf_found (r : Except ErrorKind SelectResult) (s : State) :
    (s.recordOf r).found = s.found := by unfold State.recordOf; split <;> rfl
@[simp] theorem State.recordOf_phase (r : Except ErrorKind SelectResult) (s : State) :
    (s.recordOf r).phase = s.phase := by unfold State.recordOf; split <;> rfl
@[simp] theorem State.recordOf_session (r : Except ErrorKind SelectResult) (s : State) :
    (s.recordOf r).session = s.session := by unfold State.recordOf; split <;> rfl
@[simp] theorem State.recordOf_current (r : Except ErrorKind SelectResult) (s : State) :
    (s.recordOf r).current = s.current := by unfold State.recordOf; split <;> rfl
@[simp] theorem State.recordOf_outcome (r : Except ErrorKind SelectResult) (s : State) :
    (s.recordOf r).outcome = s.outcome := by unfold State.recordOf; split <;> rfl
@[simp] theorem State.recordOf_operand (r : Except ErrorKind SelectResult) (s : State) :
    (s.recordOf r).operand = s.operand := by unfold State.recordOf; split <;> rfl
@[simp] theorem State.recordOf_program (r : Except ErrorKind SelectResult) (s : State) :
    (s.recordOf r).program = s.program := by unfold State.recordOf; split <;> rfl
@[simp] theorem State.recordOf_overlapping (r : Except ErrorKind SelectResult) (s : State) :
    (s.recordOf r).overlapping = s.overlapping := by unfold State.recordOf; split <;> rfl
@[simp] theorem State.recordOf_results (r : Except ErrorKind SelectResult) (s : State) :
    (s.recordOf r).results = s.results := by unfold State.recordOf; split <;> rfl
@[simp] theorem State.recordOf_history (r : Except ErrorKind SelectResult) (s : State) :
    (s.recordOf r).history = s.history := by unfold State.recordOf; split <;> rfl
@[simp] theorem State.recordOf_writes (r : Except ErrorKind SelectResult) (s : State) :
    (s.recordOf r).writes = s.writes := by unfold State.recordOf; split <;> rfl
@[simp] theorem State.recordOf_reads (r : Except ErrorKind SelectResult) (s : State) :
    (s.recordOf r).reads = s.reads := by unfold State.recordOf; split <;> rfl
@[simp] theorem State.recordOf_levels (r : Except ErrorKind SelectResult) (s : State) :
    (s.recordOf r).levels = s.levels := by unfold State.recordOf; split <;> rfl
@[simp] theorem State.recordOf_cancels (r : Except ErrorKind SelectResult) (s : State) :
    (s.recordOf r).cancels = s.cancels := by unfold State.recordOf; split <;> rfl
@[simp] theorem State.recordOf_freeDraws (r : Except ErrorKind SelectResult) (s : State) :
    (s.recordOf r).freeDraws = s.freeDraws := by unfold State.recordOf; split <;> rfl

theorem State.Quiet.recordOf {s : State} (h : s.Quiet) (r : Except ErrorKind SelectResult) :
    (s.recordOf r).Quiet := by
  unfold State.recordOf
  split <;> exact h.congr rfl rfl rfl rfl rfl rfl rfl

/-- The index arithmetic of R87 on RXBUF and the field split of R86 on the payload say the same. -/
theorem selectTag_of_read {s : State} {raw : List Byte} (hw : s.writeAnswer = .ok)
    (hr : s.readAnswer = .bytes raw) :
    selectTag s = (selectVerdict raw,
      ((s.afterRead s.cfg.cmdSelectMifare raw).closeSession.afterVerdict (selectVerdict raw)).recordOf
        (selectVerdict raw)) := by
  rcases exchange_cases s s.cfg.cmdSelectMifare minLenSelect with ⟨h, _⟩ | ⟨_, h, _⟩ | ⟨raw', _, h, hfit, he⟩
  · simp [hw] at h
  · simp [hr] at h
  · rw [hr] at h; cases h
    have hrx : (s.afterRead s.cfg.cmdSelectMifare raw).closeSession.rxBytes = raw :=
      rxBytes_afterRead s s.cfg.cmdSelectMifare raw hfit
    unfold selectTag
    rw [he]
    unfold selectVerdict
    cases hp : parseFrame raw minLenSelect with
    | error e => rfl
    | ok f =>
      simp only [State.afterVerdict]
      have hd : decodeResponse raw minLenSelect = .ok f := by
        unfold parseFrame at hp
        split at hp
        · cases hp; assumption
        · cases hp
      obtain ⟨rest, hraw, h1, h2, h3, h4⟩ := decodeResponse_cases hd
      simp only [hrx]
      obtain ⟨status, more, rfl⟩ : ∃ status more, rest = status :: more := by
        cases rest with
        | nil => rw [hraw] at h3; simp at h3; omega
        | cons a b => exact ⟨a, b, rfl⟩
      have hlen : raw.length = more.length + 3 := by rw [hraw]; simp
      have hpay : f.payload = status :: more.take (f.length.toNat - 2) := by
        rw [h4]
        obtain ⟨k, hk⟩ : ∃ k, f.length.toNat = k + 2 := ⟨f.length.toNat - 2, by omega⟩
        simp [hk]
      have hst : raw[2]? = some status := by rw [hraw]; rfl
      simp only [hst, selectReading, hpay, selectOutcome, Option.some.injEq, ne_eq]
      by_cases hz : status = statusOk
      · simp only [hz, not_true_eq_false, if_false]
        by_cases hl : f.length.toNat < 3
        · have hl2 : f.length.toNat = 2 := by omega
          simp [hl2, State.recordOf]; rfl
        · simp only [hl, if_false]
          obtain ⟨k, hk⟩ : ∃ k, f.length.toNat = k + 3 := ⟨f.length.toNat - 3, by omega⟩
          have hkm : k < more.length := by omega
          have htake : more.take (f.length.toNat - 2) = more.take k ++ [more[k]] := by
            rw [hk, show k + 3 - 2 = k + 1 from rfl, List.take_add_one, List.getElem?_eq_getElem hkm]
            rfl
          have hidx : raw[f.length.toNat]? = some more[k] := by
            rw [hk]
            conv_lhs => rw [hraw]
            simp [hkm]
          have hsl : slice raw 3 (f.length.toNat - 3) = more.take k := by
            rw [hk, show k + 3 - 3 = k from rfl]
            conv_lhs => rw [hraw]
            simp [slice]
          rw [htake, hidx, hsl, List.getLast?_append_cons, List.dropLast_concat]
          rfl
      · simp only [hz, not_false_eq_true, if_true]
        rfl

/-- R140: the three ways a select goes, in one form: a result, and the state after the exchange with the
record written from that result. -/
theorem selectTag_cases (s : State) :
    (s.writeAnswer = .ioError ∧ selectTag s =
      (.error .ioError, (s.afterWrite s.cfg.cmdSelectMifare).closeSession.loseRxBuf.clearRecord)) ∨
    (s.writeAnswer = .ok ∧ s.readAnswer = .ioError ∧ selectTag s =
      (.error .ioError, (s.afterAsking s.cfg.cmdSelectMifare).closeSession.loseRxBuf.clearRecord)) ∨
    (∃ raw, s.writeAnswer = .ok ∧ s.readAnswer = .bytes raw ∧ raw.length ≤ 15 ∧ selectTag s =
      (selectVerdict raw,
       ((s.afterRead s.cfg.cmdSelectMifare raw).closeSession.afterVerdict (selectVerdict raw)).recordOf
         (selectVerdict raw))) := by
  rcases exchange_cases s s.cfg.cmdSelectMifare minLenSelect with ⟨h, he⟩ | ⟨h, h', he⟩ | ⟨raw, h, h', hf, he⟩
  · exact .inl ⟨h, by unfold selectTag; rw [he]⟩
  · exact .inr (.inl ⟨h, h', by unfold selectTag; rw [he]⟩)
  · exact .inr (.inr ⟨raw, h, h', hf, selectTag_of_read h h'⟩)

/-- R141: what GET_FIRMWARE makes of the bytes it read. -/
def firmwareVerdict (raw : List Byte) : Except ErrorKind Value :=
  match parseFrame raw minLenFirmware with
  | .error e => .error e
  | .ok f => firmwareOutcome (slice raw 3 (f.length.toNat - 2))

/-- R141: the three ways a firmware read goes. -/
theorem readFirmware_cases (s : State) :
    (s.writeAnswer = .ioError ∧ readFirmware s =
      (.error .ioError, (s.afterWrite s.cfg.cmdGetFirmware).closeSession.loseRxBuf)) ∨
    (s.writeAnswer = .ok ∧ s.readAnswer = .ioError ∧ readFirmware s =
      (.error .ioError, (s.afterAsking s.cfg.cmdGetFirmware).closeSession.loseRxBuf)) ∨
    (∃ raw, s.writeAnswer = .ok ∧ s.readAnswer = .bytes raw ∧ raw.length ≤ 15 ∧ readFirmware s =
      (firmwareVerdict raw,
       (s.afterRead s.cfg.cmdGetFirmware raw).closeSession.afterVerdict (firmwareVerdict raw))) := by
  rcases exchange_cases s s.cfg.cmdGetFirmware minLenFirmware with ⟨h, he⟩ | ⟨h, h', he⟩ | ⟨raw, h, h', hf, he⟩
  · exact .inl ⟨h, by unfold readFirmware; rw [he]⟩
  · exact .inr (.inl ⟨h, h', by unfold readFirmware; rw [he]⟩)
  · refine .inr (.inr ⟨raw, h, h', hf, ?_⟩)
    have hrx : (s.afterRead s.cfg.cmdGetFirmware raw).closeSession.rxBytes = raw :=
      rxBytes_afterRead s s.cfg.cmdGetFirmware raw hf
    unfold readFirmware firmwareVerdict
    rw [he]
    cases parseFrame raw minLenFirmware with
    | error e => rfl
    | ok f =>
      simp only [State.afterVerdict, hrx, firmwareOutcome]
      cases verdictOf (slice raw 3 (f.length.toNat - 2)) <;> rfl

end Sys2Proof.Machine
end

