-- ==== Sys2Proof/Laws/Exec.lean ====
section
/-! SUPPORT. What `exec` does with a host operation, said once: it is refused while the block is busy, and
otherwise has its effect, the state function below. -/

namespace Sys2Proof.Machine

/-- The effect of a host operation on an idle block. -/
def hostEffect : Instr → State → State
  | .encodeCommand cmd, s => s.deliver (.ok (.bytes (commandFrame cmd)))
  | .decodeFrame minLen, s => s.conclude ((parseFrame s.operand minLen.toNat).map Value.frame)
  | .validate, s => s.conclude ((verdictOf s.operand).map Value.verdict)
  | .selectTag, s => (selectTag s).2.conclude ((selectTag s).1.map SelectResult.value)
  | .getFirmware, s => (readFirmware s).2.conclude (readFirmware s).1
  | .deselect, s => s.clearRecord.deliver (.ok .done)
  | .getUid, s => s.deliver (.ok (.bytes (currentUid s)))
  | .getUidHex, s => s.deliver (.ok (.text (hexText (currentUid s))))
  | .getType, s => s.deliver (.ok (.cardType (if s.sel then s.cardType else none)))
  | .typeName code, s => s.deliver (.ok (.text (nameOf s.cfg code)))
  | .uidToHex, s => s.deliver (.ok (.text (hexText s.operand)))
  | .isPresent, s => (pollPresence s).2.conclude ((pollPresence s).1.map Value.present)
  | .waitUntilPresent, s => waitIteration .waitUntilPresent true tPollPresent s
  | .waitUntilAbsent, s => waitIteration .waitUntilAbsent false tPollAbsent s
  | _, s => s.refuse

theorem exec_hostWord (i : Instr) (s : State) (h : i.port = .hostWord) :
    exec i s = whenIdle s (hostEffect i) := by
  cases i
  case unassignedE => simp [exec, execUnassignedE, whenIdle, hostEffect]
  case unassignedF => simp [exec, execUnassignedF, whenIdle, hostEffect]
  all_goals first | rfl | cases h

/-- A host operation on an idle block. -/
theorem exec_of_idle {i : Instr} {s : State} (h : i.port = .hostWord) (hi : s.phase = .idle) :
    exec i s = .next (hostEffect i s) := by
  rw [exec_hostWord i s h, whenIdle_of_idle hi]

/-- A host operation on a busy block. -/
theorem exec_of_busy {i : Instr} {s : State} (h : i.port = .hostWord) (hb : s.busy = true) :
    exec i s = .next s.refuse := by
  rw [exec_hostWord i s h, whenIdle_of_busy hb]

/-- The two cases of a host operation, as one inversion. -/
theorem exec_hostWord_cases {i : Instr} {s t : State} (h : i.port = .hostWord) (he : exec i s = .next t) :
    (s.busy = true ∧ t = s.refuse) ∨ (s.phase = .idle ∧ t = hostEffect i s) :=
  whenIdle_cases ((exec_hostWord i s h).symm.trans he)

/-- Taking a presented operation, at rest. -/
theorem step_of_idle {s : State} {r : Request} {rest : List Request} (h : s.phase = .idle)
    (hp : s.program = r :: rest) :
    step s = exec (decodeOp r.word) { s with program := rest, operand := r.operand } := by
  simp [step, h, hp, State.present]

/-- Going on with the operation in progress. -/
theorem step_of_busy {s : State} (h : s.phase ≠ .idle) (ho : s.overlapping = []) : step s = sequencerStep s := by
  unfold step
  split
  · contradiction
  · rw [ho]

end Sys2Proof.Machine
end

