-- ==== Sys2Proof/Laws/PerInstr.lean ====
section
/-! SUPPORT. One statement for every instruction: the shape of its bits (spec/30_encoding.md R80, R97). -/

namespace Sys2Proof.Laws.EncodedShape

/-- A host operation is one operation word at the host port; anything else is a frame of 2 to 15 bytes whose
first byte counts the bytes after it (R80, R81). -/
def Statement (i : Instr) : Prop :=
  i.wellFormed = true → ∀ cfg : Config,
    (i.port = .hostWord ∧ ∃ w, encode cfg i = .word w) ∨
    (i.port ≠ .hostWord ∧ ∃ len rest, encode cfg i = .frame (len :: rest) ∧ len.toNat = rest.length ∧
      1 ≤ rest.length ∧ rest.length ≤ 14)

theorem frameBytes_shape (cmd : Byte) (payload : List Byte) (h : payload.length ≤ 13) :
    ∃ len rest, Encoded.frame (frameBytes cmd payload) = .frame (len :: rest) ∧ len.toNat = rest.length ∧
      1 ≤ rest.length ∧ rest.length ≤ 14 := by
  refine ⟨_, _, rfl, ?_, by simp, by simp only [List.length_cons]; omega⟩
  simp only [BitVec.toNat_ofNat, List.length_cons]
  omega

theorem encodeCommand (cmd : Byte) : Statement (.encodeCommand cmd) := fun _ _ => .inl ⟨rfl, _, rfl⟩
theorem decodeFrame (minLen : Byte) : Statement (.decodeFrame minLen) := fun _ _ => .inl ⟨rfl, _, rfl⟩
theorem validate : Statement (.validate) := fun _ _ => .inl ⟨rfl, _, rfl⟩
theorem selectTag : Statement (.selectTag) := fun _ _ => .inl ⟨rfl, _, rfl⟩
theorem getFirmware : Statement (.getFirmware) := fun _ _ => .inl ⟨rfl, _, rfl⟩
theorem deselect : Statement (.deselect) := fun _ _ => .inl ⟨rfl, _, rfl⟩
theorem getUid : Statement (.getUid) := fun _ _ => .inl ⟨rfl, _, rfl⟩
theorem getUidHex : Statement (.getUidHex) := fun _ _ => .inl ⟨rfl, _, rfl⟩
theorem getType : Statement (.getType) := fun _ _ => .inl ⟨rfl, _, rfl⟩
theorem typeName (code : Byte) : Statement (.typeName code) := fun _ _ => .inl ⟨rfl, _, rfl⟩
theorem uidToHex : Statement (.uidToHex) := fun _ _ => .inl ⟨rfl, _, rfl⟩
theorem isPresent : Statement (.isPresent) := fun _ _ => .inl ⟨rfl, _, rfl⟩
theorem waitUntilPresent : Statement (.waitUntilPresent) := fun _ _ => .inl ⟨rfl, _, rfl⟩
theorem waitUntilAbsent : Statement (.waitUntilAbsent) := fun _ _ => .inl ⟨rfl, _, rfl⟩
theorem unassignedE : Statement (.unassignedE) := fun _ _ => .inl ⟨rfl, _, rfl⟩
theorem unassignedF : Statement (.unassignedF) := fun _ _ => .inl ⟨rfl, _, rfl⟩
theorem cmdFrame (cmd : Byte) : Statement (.cmdFrame cmd) :=
  fun _ _ => .inr ⟨by simp [Instr.port], _, _, rfl, rfl, by simp, by simp⟩
theorem cmdFrameSelectMifare : Statement (.cmdFrameSelectMifare) :=
  fun _ _ => .inr ⟨by simp [Instr.port], _, _, rfl, rfl, by simp, by simp⟩
theorem cmdFrameGetFirmware : Statement (.cmdFrameGetFirmware) :=
  fun _ _ => .inr ⟨by simp [Instr.port], _, _, rfl, rfl, by simp, by simp⟩

theorem respFrame (cmd : Byte) (payload : List Byte) : Statement (.respFrame cmd payload) := by
  intro h cfg
  simp only [Instr.wellFormed, payloadFits, decide_eq_true_eq] at h
  exact .inr ⟨by simp [Instr.port], frameBytes_shape cmd payload h.2⟩

theorem respSelect (cmd status : Byte) (uid : List Byte) (type : Option Byte) :
    Statement (.respSelect cmd status uid type) := by
  intro h cfg
  simp only [Instr.wellFormed, uidFits, Bool.and_eq_true, decide_eq_true_eq] at h
  refine .inr ⟨by simp [Instr.port], frameBytes_shape cmd (selectPayload status uid type) ?_⟩
  have : uid.length ≤ 11 := h.1
  cases type <;> simp [selectPayload] <;> omega

theorem respFirmware (cmd reserved : Byte) (fwid : List Byte) : Statement (.respFirmware cmd reserved fwid) := by
  intro h cfg
  simp only [Instr.wellFormed, fwidFits, decide_eq_true_eq] at h
  have : fwid.length ≤ 12 := h
  exact .inr ⟨by simp [Instr.port], frameBytes_shape cmd (reserved :: fwid) (by simp; omega)⟩

end Sys2Proof.Laws.EncodedShape
end

