-- ==== Sys2Proof/Laws/Sequencer.lean ====
section
/-! SUPPORT. What the moves of the sequencer do, how the event history grows, and when the invariant holds. -/

namespace Sys2Proof.Machine

/-! ### Blocks at rest -/

theorem closeSession_of_closed {s : State} (h : s.session = false) : s.closeSession = s := by
  cases s; simp_all [State.closeSession]

/-- A select run by a block at rest leaves it at rest. -/
theorem State.Quiet.selectTag {s : State} (h : s.Quiet) : (selectTag s).2.Quiet := by
  rcases selectTag_cases s with ⟨_, e⟩ | ⟨_, _, e⟩ | ⟨raw, _, _, _, e⟩ <;> rw [e]
  · exact h.congr rfl h.noSession.symm rfl rfl rfl rfl rfl
  · exact h.congr rfl h.noSession.symm rfl rfl rfl rfl rfl
  · have q : (s.afterRead s.cfg.cmdSelectMifare raw).closeSession.Quiet :=
      h.congr rfl h.noSession.symm rfl rfl rfl rfl rfl
    exact (q.afterVerdict _).recordOf _

theorem State.Quiet.readFirmware {s : State} (h : s.Quiet) : (readFirmware s).2.Quiet := by
  rcases readFirmware_cases s with ⟨_, e⟩ | ⟨_, _, e⟩ | ⟨raw, _, _, _, e⟩ <;> rw [e]
  · exact h.congr rfl h.noSession.symm rfl rfl rfl rfl rfl
  · exact h.congr rfl h.noSession.symm rfl rfl rfl rfl rfl
  · have q : (s.afterRead s.cfg.cmdGetFirmware raw).closeSession.Quiet :=
      h.congr rfl h.noSession.symm rfl rfl rfl rfl rfl
    exact q.afterVerdict _

theorem State.Quiet.pollPresence {s : State} (h : s.Quiet) : (pollPresence s).2.Quiet := by
  unfold Sys2Proof.Machine.pollPresence
  split
  · exact h.congr rfl rfl rfl rfl rfl rfl rfl
  · exact h.selectTag

/-- A busy-free state of the invariant is at rest. -/
theorem State.Inv.quiet {s : State} (h : s.Inv) (hi : s.phase = .idle) : s.Quiet where
  idle := hi
  noSession := by
    cases hs : s.session
    · rfl
    · have := h.session.1 hs; simp [hi] at this
  noCurrent := h.atRest.1 hi
  noOutcome := by
    by_contra ho
    have := h.outcome ho; simp [hi] at this
  noFrame := by
    cases hf : s.frame with
    | none => rfl
    | some f => have := (h.view f hf).2; simp [hi] at this
  noFwid := by
    cases hf : s.fwid with
    | none => rfl
    | some id => have := (h.fwid id hf).1; simp [hi] at this
  noFound := by
    cases hf : s.found with
    | none => rfl
    | some r => have := (h.found r hf).1; simp [hi] at this

/-- At rest, the invariant is what it says of the record, the read count and the history. -/
theorem State.Quiet.inv {s : State} (q : s.Quiet) (r : s.RecordOk) (x : s.rxCnt ≤ maxFrame)
    (p : ReadsPaced s.cfg.devAddr s.history) (l : ∀ e ∈ s.history, LegalEvent s.cfg e) : s.Inv := by
  obtain ⟨h1, h2, h3, h4, h5, h6, h7⟩ := q
  constructor <;> simp_all

/-! ### The event history -/

/-- R63 is kept by every event that is no Read. -/
theorem ReadsPaced.snoc {d : Nat} {h : List Event} (e : Event) (hp : ReadsPaced d h)
    (he : ∀ a n, e ≠ .read a n) : ReadsPaced d (h ++ [e]) := by
  intro k a n hk
  rcases Nat.lt_or_ge k h.length with hl | hl
  · rw [List.getElem?_append_left hl] at hk
    obtain ⟨h2, h3, cmd, h4⟩ := hp k a n hk
    exact ⟨h2, by rw [List.getElem?_append_left (by omega)]; exact h3, cmd,
      by rw [List.getElem?_append_left (by omega)]; exact h4⟩
  · rw [List.getElem?_append_right hl] at hk
    cases hkk : k - h.length with
    | zero => rw [hkk] at hk; simp at hk; exact absurd hk (he a n)
    | succ j => rw [hkk] at hk; simp at hk

/-- R63 is kept by a Read behind its Write and its Delay(50). -/
theorem ReadsPaced.snoc_read {d : Nat} {h : List Event} {cmd : Byte} (a n : Nat)
    (hp : ReadsPaced d (h ++ [.write d [0x01, cmd], .delay tTurnaround])) :
    ReadsPaced d (h ++ [.write d [0x01, cmd], .delay tTurnaround] ++ [.read a n]) := by
  intro k a' n' hk
  rcases Nat.lt_or_ge k (h.length + 2) with hl | hl
  · rw [List.getElem?_append_left (by simpa using hl)] at hk
    obtain ⟨h2, h3, cmd, h4⟩ := hp k a' n' hk
    exact ⟨h2, by rw [List.getElem?_append_left (by simp; omega)]; exact h3, cmd,
      by rw [List.getElem?_append_left (by simp; omega)]; exact h4⟩
  · rw [List.getElem?_append_right (by simpa using hl)] at hk
    simp at hk
    have h1 : k = h.length + 2 := by
      cases hkk : k - (h.length + 2) with
      | zero => omega
      | succ j => rw [hkk] at hk; simp at hk
    subst h1
    exact ⟨by omega, by rw [show h.length + 2 - 1 = h.length + 1 by omega]; simp, cmd, by simp⟩

/-! ### DECODE -/

/-- DECODE of a response with a payload byte, inside a select: its fields, or the error they make. -/
theorem decodeRead_select {s : State} {f : ResponseFrame} (hc : s.current ≠ some .getFirmware)
    (hd : decodeResponse s.rxBytes s.minLen = .ok f) :
    s.decodeRead = .next (match selectReading f with
      | .error e => State.failExchange e { s with frame := none, found := none }
      | .ok r => { s with frame := some f, found := some r, phase := .commit }) := by
  obtain ⟨status, rest, hp⟩ := decodeResponse_payload_cons hd
  have hb := decodeResponse_rebuild hd
  have hrow : s.fieldsRow f = selectFields f := by
    unfold State.fieldsRow
    split
    · contradiction
    · rfl
  simp only [State.decodeRead, hd, hrow, selectFields, hp, exec, execRespFrame, execRespSelect, frameFields,
    selectReading, selectPayload_split]
  rw [hp] at hb
  rw [hb]
  cases selectOutcome status rest.dropLast rest.getLast? <;> rfl

/-- DECODE of a response inside GET_FIRMWARE: FWID is what stands behind the reserved byte. -/
theorem decodeRead_firmware {s : State} {f : ResponseFrame} (hc : s.current = some .getFirmware)
    (hd : decodeResponse s.rxBytes s.minLen = .ok f) :
    s.decodeRead = .next { s with frame := some f, fwid := some f.payload.tail, phase := .validate } := by
  obtain ⟨reserved, fwid, hp⟩ := decodeResponse_payload_cons hd
  have hb := decodeResponse_rebuild hd
  rw [hp] at hb
  simp only [State.decodeRead, hd, State.fieldsRow, hc, firmwareFields, hp, exec, execRespFrame,
    execRespFirmware, frameFields, List.tail_cons]
  exact congrArg _ (by rw [← hb]; rfl)

/-- DECODE of anything else. -/
theorem decodeRead_malformed {s : State} {d : DecodeError}
    (hd : decodeResponse s.rxBytes s.minLen = .error d) :
    s.decodeRead = .next (s.failExchange .malformedFrame) := by
  simp [State.decodeRead, hd]

/-- The four ways DECODE goes. -/
theorem decodeRead_cases (s : State) :
    (∃ d, decodeResponse s.rxBytes s.minLen = .error d ∧ s.decodeRead = .next (s.failExchange .malformedFrame)) ∨
    (∃ f, decodeResponse s.rxBytes s.minLen = .ok f ∧
      ((s.current = some .getFirmware ∧
          s.decodeRead = .next { s with frame := some f, fwid := some f.payload.tail, phase := .validate }) ∨
       (∃ e, s.current ≠ some .getFirmware ∧ selectReading f = .error e ∧
          s.decodeRead = .next (State.failExchange e { s with frame := none, found := none })) ∨
       (∃ r, s.current ≠ some .getFirmware ∧ selectReading f = .ok r ∧
          s.decodeRead = .next { s with frame := some f, found := some r, phase := .commit }))) := by
  cases hd : decodeResponse s.rxBytes s.minLen with
  | error d => exact .inl ⟨d, rfl, decodeRead_malformed hd⟩
  | ok f =>
    refine .inr ⟨f, rfl, ?_⟩
    by_cases hc : s.current = some .getFirmware
    · exact .inl ⟨hc, decodeRead_firmware hc hd⟩
    · have h := decodeRead_select hc hd
      cases hr : selectReading f with
      | error e => exact .inr (.inl ⟨e, hc, rfl, by rw [h, hr]⟩)
      | ok r => exact .inr (.inr ⟨r, hc, rfl, by rw [h, hr]⟩)

/-! ### COMMIT, DONE, POLL_WAIT -/

/-- What the operation in progress does once its select is committed (R34). -/
def afterSelect (i : Instr) (r : Except ErrorKind SelectResult) (s : State) : State :=
  match i with
  | .isPresent => s.endWith (resultOf ((presenceOf r).map Value.present))
  | .waitUntilPresent => s.afterPoll true (presenceOf r)
  | .waitUntilAbsent => s.afterPoll false (presenceOf r)
  | _ => s.endWith (resultOf (r.map SelectResult.value))

/-- COMMIT writes the record and then does what the operation in progress does. -/
theorem commitSelect_eq (i : Instr) (r : Except ErrorKind SelectResult) (s : State) (h : s.current = some i) :
    s.commitSelect r = afterSelect i r (s.recordOf r) := by
  rcases r with e | r
  · unfold State.commitSelect afterSelect
    simp only [State.recordOf, State.clearRecord_current, h]
    cases i <;> rfl
  · cases r <;> unfold State.commitSelect afterSelect <;>
      simp only [State.recordOf, State.clearRecord_current, State.setRecord_current, h] <;>
      cases i <;> rfl

/-- DONE hands the result over. -/
theorem sequencerStep_done {s : State} {r : Result} (h : s.phase = .done) (ho : s.outcome = some r) :
    sequencerStep s = .next (s.deliver r) := by
  unfold sequencerStep
  simp only [h, ho]

theorem sequencerStep_pollWait_present {s : State} (h : s.phase = .pollWait)
    (hc : s.current = some .waitUntilPresent) :
    sequencerStep s = .next { s.delay tPollPresent with phase := .poll } := by
  unfold sequencerStep
  simp only [h, hc]

theorem sequencerStep_pollWait_absent {s : State} (h : s.phase = .pollWait)
    (hc : s.current = some .waitUntilAbsent) :
    sequencerStep s = .next { s.delay tPollAbsent with phase := .poll } := by
  unfold sequencerStep
  simp only [h, hc]

/-! ### Responses -/

/-- R23: a select response inside a 15-byte read never has more than eleven UID bytes. -/
theorem selectVerdict_fits {raw : List Byte} {c : Byte} {u : List Byte} (hf : raw.length ≤ 15)
    (h : selectVerdict raw = .ok (.selected c u)) : u.length ≤ 11 := by
  unfold selectVerdict at h
  split at h
  · cases h
  · next f hp =>
    have hd : decodeResponse raw 3 = .ok f := by
      unfold parseFrame at hp
      split at hp
      · cases hp; assumption
      · cases hp
    obtain ⟨rest, hraw, h1, h2, h3, h4⟩ := decodeResponse_cases hd
    have := (decodeResponse_payload_length hd).1
    unfold selectReading at h
    split at h
    · cases h
    · next st more hpay =>
      rw [hpay] at this
      unfold selectOutcome at h
      split at h
      · cases h
      · split at h
        · cases h
        · cases h; simp at this ⊢; omega

/-- R85: a response is decoded from the bytes 0 to LEN alone, and so is every slice inside them. -/
theorem decodeResponse_of_agree {raw raw' : List Byte} (hl : raw'.length = raw.length)
    (h : ∀ len, raw[0]? = some len → raw'.take (len.toNat + 1) = raw.take (len.toNat + 1))
    {m : Nat} {f : ResponseFrame} (hd : decodeResponse raw m = .ok f) :
    decodeResponse raw' m = .ok f ∧ ∀ j k, j + k ≤ f.length.toNat + 1 → slice raw' j k = slice raw j k := by
  obtain ⟨rest, hraw, h1, h2, h3, h4⟩ := decodeResponse_cases hd
  have h := h f.length (by rw [hraw]; rfl)
  have hs : ∀ j k, j + k ≤ f.length.toNat + 1 → slice raw' j k = slice raw j k := by
    intro j k hjk
    have e : ∀ l : List Byte, slice l j k = ((l.take (f.length.toNat + 1)).drop j).take k := by
      intro l; simp only [slice, List.drop_take, List.take_take]; congr 1; omega
    rw [e, e, h]
  refine ⟨?_, hs⟩
  match raw', hl, h with
  | [], hl, _ => rw [hraw] at hl; simp at hl
  | [_], hl, _ => rw [hraw] at hl; simp at hl
  | a :: b :: rest', hl, h =>
    rw [hraw] at h
    obtain ⟨k, hk⟩ : ∃ k, f.length.toNat = k + 1 := ⟨f.length.toNat - 1, by omega⟩
    rw [hk] at h
    simp only [List.take_succ_cons, List.cons.injEq] at h
    obtain ⟨rfl, rfl, h⟩ := h
    have hlen : rest'.length = rest.length := by rw [hraw] at hl; simpa using hl
    rw [hraw] at h1 h3
    simp only [List.length_cons] at h1 h3
    rw [decodeResponse_of_shape _ _ _ _ (by omega) h2 (by omega)]
    rw [hk, show k + 1 - 1 = k by omega] at h4 ⊢
    rw [h, ← h4]

end Sys2Proof.Machine
end

