-- ==== Sys2Proof/Tests/Slice0.lean ====
section
/-! SUPPORT. Small tests, one step each. Their expected values are the spec's own: the vectors V1 to V10 and the
example S6 of spec/95_test_vectors.md, and words and frames written out from spec/30_encoding.md. Then, for each
statement with hypotheses, a state and operands that meet them. -/

namespace Sys2Proof.Tests

open Sys2Proof.Machine

/-! ### A small block -/

/-- The suggested command codes of the vectors; DEV_ADDR, PIN and the names are arbitrary. -/
def config (m : PresenceMode) : Config where
  mode := m
  devAddr := 0x50
  pin := 4
  cmdSelectMifare := 0x01
  cmdGetFirmware := 0xF0
  typeName02 := [2]
  typeName03 := [3]
  typeName04 := [4]
  typeName05 := [5]
  typeName06 := [6]

/-- A constructed block whose collaborators will answer these. -/
def block (m : PresenceMode) (w : List WriteAnswer) (r : List ReadAnswer) (l : List Level) (c : List Bool) :
    State :=
  { State.construct (config m) with writes := ⟨w, 0⟩, reads := ⟨r, 0⟩, levels := ⟨l, 0⟩, cancels := ⟨c, 0⟩ }

/-- A block whose one exchange reads these bytes. -/
def reading (m : PresenceMode) (raw : List Byte) : State := block m [.ok] [.bytes raw] [] [false]

/-- A block whose pin reads this level, with CANCEL at 0. -/
def sensing (l : Level) : State := block .pinSensed [] [] [l] [false]

/-- A block with this operand beside the word. -/
def given (operand : List Byte) : State := { block .pinSensed [] [] [] [] with operand := operand }

/-- The record `1 / t / uid`. -/
def holding (t : Byte) (uid : List Byte) (s : State) : State := s.setRecord t uid

/-- A block waiting for a tag at POLL. -/
def waiting (m : PresenceMode) : State :=
  { block m [.ok] [.bytes [0x02, 0x01, 0x01]] [.high] [false] with
    phase := .poll, current := some .waitUntilPresent }

structure Seen where
  results  : List Result
  events   : List Event
  sel      : Bool
  cardType : Option Byte
  uid      : List Byte
deriving DecidableEq, Repr

def seen (o : Host.Outcome State Fault Refusal) : Option Seen :=
  match o with
  | .next t => some ⟨t.results.map Returned.value, t.history, t.sel, t.cardType, t.uid⟩
  | .fault _ => none
  | .refused _ => none

/-- What is seen of an operation that touches nothing, on a block with a cleared record. -/
def plain (r : Result) : Option Seen := some ⟨[r], [], false, none, []⟩

/-- `W[01 c], D50, R15`. -/
def wdr (c : Byte) : List Event := [.write 0x50 [0x01, c], .delay 50, .read 0x50 15]

/-! ### WellFormed refuses what the formats cannot hold -/

theorem test_wf_payload_empty : (Instr.respFrame 0x01 []).wellFormed = false := by decide
theorem test_wf_payload_long : (Instr.respFrame 0x01 (List.replicate 14 0x00)).wellFormed = false := by decide
theorem test_wf_uid_long :
    (Instr.respSelect 0x01 0x00 (List.replicate 12 0x00) (some 0x01)).wellFormed = false := by decide
theorem test_wf_uid_without_type : (Instr.respSelect 0x01 0x00 [0xAA] none).wellFormed = false := by decide
theorem test_wf_fwid_long : (Instr.respFirmware 0xF0 0x00 (List.replicate 13 0x53)).wellFormed = false := by
  decide

/-! ### Decoding, by bits written out from R97, R82, R84, R86, R88 -/

theorem test_decode_encodeCommand : decodeOp 0b000000000001#12 = .encodeCommand 0x01 := by decide
theorem test_decode_decodeFrame : decodeOp 0b000100001111#12 = .decodeFrame 15 := by decide
theorem test_decode_validate : decodeOp 0b001000000000#12 = .validate := by decide
theorem test_decode_selectTag : decodeOp 0b001100000000#12 = .selectTag := by decide
theorem test_decode_getFirmware : decodeOp 0b010000000000#12 = .getFirmware := by decide
theorem test_decode_deselect : decodeOp 0b010111111111#12 = .deselect := by decide
theorem test_decode_getUid : decodeOp 0b011000000000#12 = .getUid := by decide
theorem test_decode_getUidHex : decodeOp 0b011100000000#12 = .getUidHex := by decide
theorem test_decode_getType : decodeOp 0b100000000001#12 = .getType := by decide
theorem test_decode_typeName : decodeOp 0b100101111111#12 = .typeName 0x7F := by decide
theorem test_decode_uidToHex : decodeOp 0b101000000000#12 = .uidToHex := by decide
theorem test_decode_isPresent : decodeOp 0b101100000000#12 = .isPresent := by decide
theorem test_decode_waitUntilPresent : decodeOp 0b110000000000#12 = .waitUntilPresent := by decide
theorem test_decode_waitUntilAbsent : decodeOp 0b110100000000#12 = .waitUntilAbsent := by decide
theorem test_decode_unassignedE : decodeOp 0b111000000000#12 = .unassignedE := by decide
theorem test_decode_unassignedF : decodeOp 0b111111111111#12 = .unassignedF := by decide
theorem test_decode_cmdFrame :
    decode (config .pinSensed) .command (.frame [0b00000001, 0b00000001]) = .ok (.cmdFrame 0x01) := by decide
theorem test_decode_cmdFrameSelectMifare :
    decode (config .pinSensed) .selectCommand (.frame [0b00000001, 0b00000001]) =
      .ok .cmdFrameSelectMifare := by decide
theorem test_decode_cmdFrameGetFirmware :
    decode (config .pinSensed) .firmwareCommand (.frame [0b00000001, 0b11110000]) =
      .ok .cmdFrameGetFirmware := by decide
/-- V2 row 12: the trailing bytes are trimmed. -/
theorem test_decode_respFrame :
    decode (config .pinSensed) .response (.frame [0x03, 0x01, 0x09, 0x08, 0x07, 0x06]) =
      .ok (.respFrame 0x01 [0x09, 0x08]) := by decide
/-- S6. -/
theorem test_decode_respSelect :
    decode (config .pinSensed) .selectResponse (.frame [0x05, 0x01, 0x00, 0xAA, 0xBB, 0x01]) =
      .ok (.respSelect 0x01 0x00 [0xAA, 0xBB] (some 0x01)) := by decide
/-- V4 row 4: no TYPE byte. -/
theorem test_decode_respSelect_short :
    decode (config .pinSensed) .selectResponse (.frame [0x02, 0x01, 0x01]) =
      .ok (.respSelect 0x01 0x01 [] none) := by decide
/-- V5 row 10. -/
theorem test_decode_respFirmware :
    decode (config .pinSensed) .firmwareResponse
      (.frame [0x0B, 0xF0, 0x7E, 0x53, 0x4C, 0x30, 0x33, 0x30, 0x2D, 0x31, 0x2E, 0x30, 0x00, 0x00, 0x00]) =
      .ok (.respFirmware 0xF0 0x7E [0x53, 0x4C, 0x30, 0x33, 0x30, 0x2D, 0x31, 0x2E, 0x30]) := by decide
theorem test_decode_table_number : decodeTableWord 16 0x97F = some (.typeName 0x7F) := by decide
theorem test_decode_table_number_wide : decodeTableWord 16 0x1000 = none := by decide
/-- A presented word is run by the next step, from any configuration. -/
theorem test_fetch_word : step (State.reset.withFetchWord 16 0x0F0) =
    exec (.encodeCommand 0xF0) State.reset := rfl

/-! ### The operations, by the vectors -/

/-- V1 row 3. -/
theorem test_encodeCommand :
    seen (exec (.encodeCommand 0xF0) (given [])) = plain (.ok (.bytes [0x01, 0xF0])) := by decide
/-- V2 row 22: n = minLen and LEN = n - 1. -/
theorem test_decodeFrame :
    seen (exec (.decodeFrame 6) (given [0x05, 0x01, 0x00, 0xAA, 0xBB, 0x01])) =
      plain (.ok (.frame ⟨0x05, 0x01, [0x00, 0xAA, 0xBB, 0x01]⟩)) := by decide
/-- V2 row 10: LEN = n. -/
theorem test_decodeFrame_check4 :
    seen (exec (.decodeFrame 3) (given [0x03, 0x01, 0x09])) = plain (.err .malformedFrame) := by decide
/-- V3 row 6. -/
theorem test_validate_corrupt :
    seen (exec .validate (given [0xD3, 0xCC, 0xB0])) = plain (.ok (.verdict .clockSpeedCorruption)) := by decide
/-- V3 row 14. -/
theorem test_validate_unrecognized :
    seen (exec .validate (given [0x4C, 0x53])) = plain (.ok (.verdict .unrecognizedDevice)) := by decide
/-- V4 row 15. -/
theorem test_selectTag :
    seen (exec .selectTag (holding 0x04 [0x11, 0x22, 0x33, 0x44]
      (reading .pinSensed [0x07, 0xFF, 0x00, 0x01, 0x02, 0x03, 0x04, 0x7F, 0x99, 0x99]))) =
      some ⟨[.ok (.selected 0x7F [0x01, 0x02, 0x03, 0x04])], wdr 0x01, true, some 0x7F,
        [0x01, 0x02, 0x03, 0x04]⟩ := by decide
/-- V4 row 20. -/
theorem test_selectTag_write_error :
    seen (exec .selectTag (holding 0x04 [0x11, 0x22, 0x33, 0x44] (block .pinSensed [.ioError] [] [] []))) =
      some ⟨[.err .ioError], [.write 0x50 [0x01, 0x01]], false, none, []⟩ := by decide
/-- V5 row 12. -/
theorem test_getFirmware :
    seen (exec .getFirmware (holding 0x01 [0xAA, 0xBB] (reading .pinSensed
      [0x05, 0xF0, 0x00, 0x53, 0x00, 0x41, 0xFF, 0xFF, 0xFF, 0xFF, 0xFF, 0xFF, 0xFF, 0xFF, 0xFF]))) =
      some ⟨[.ok (.firmware [0x53, 0x00, 0x41] .recognizedOk)], wdr 0xF0, true, some 0x01, [0xAA, 0xBB]⟩ := by
  decide
/-- V5 row 5: the 'S' beyond the declared frame is not read. -/
theorem test_getFirmware_empty :
    seen (exec .getFirmware (reading .pinSensed
      [0x02, 0xF0, 0x00, 0x53, 0x4C, 0x30, 0x33, 0x30, 0x2D, 0x31, 0x2E, 0x30, 0x00, 0x00, 0x00])) =
      some ⟨[.err .malformedFrame], wdr 0xF0, false, none, []⟩ := by decide
/-- V6 row 8. -/
theorem test_deselect :
    seen (exec .deselect (holding 0x01 [0xAA, 0xBB] (given []))) = plain (.ok .done) := by decide
/-- V6 rows 1 and 5. -/
theorem test_getUid :
    seen (exec .getUid (given [])) = plain (.ok (.bytes [])) ∧
    seen (exec .getUid (holding 0x01 [0xAA, 0xBB] (given []))) =
      some ⟨[.ok (.bytes [0xAA, 0xBB])], [], true, some 0x01, [0xAA, 0xBB]⟩ := by decide
/-- V6 row 6. -/
theorem test_getUidHex :
    seen (exec .getUidHex (holding 0x01 [0xAA, 0xBB] (given []))) =
      some ⟨[.ok (.text (text ['A', 'A', 'B', 'B']))], [], true, some 0x01, [0xAA, 0xBB]⟩ := by decide
/-- V6 rows 3 and 11. -/
theorem test_getType :
    seen (exec .getType (given [])) = plain (.ok (.cardType none)) ∧
    seen (exec .getType (holding 0x0A [] (given []))) =
      some ⟨[.ok (.cardType (some 0x0A))], [], true, some 0x0A, []⟩ := by decide
/-- V7b row 15. -/
theorem test_typeName_127 :
    seen (exec (.typeName 0x7F) (given [])) =
      plain (.ok (.text (text ['u', 'n', 'k', 'n', 'o', 'w', 'n', ':', '1', '2', '7']))) := by decide
/-- V7b row 12: decimal. -/
theorem test_typeName_16 :
    seen (exec (.typeName 0x10) (given [])) =
      plain (.ok (.text (text ['u', 'n', 'k', 'n', 'o', 'w', 'n', ':', '1', '6']))) := by decide
/-- V7 row 8. -/
theorem test_uidToHex :
    seen (exec .uidToHex (given [0xFF, 0x00, 0x9F, 0xA0])) =
      plain (.ok (.text (text ['F', 'F', '0', '0', '9', 'F', 'A', '0']))) := by decide
/-- V8 row 3. -/
theorem test_isPresent_pin :
    seen (exec .isPresent (holding 0x01 [0xAA, 0xBB] (sensing .high))) =
      some ⟨[.ok (.present false)], [.level 4], true, some 0x01, [0xAA, 0xBB]⟩ := by decide
/-- V8 row 6. -/
theorem test_isPresent_polled :
    seen (exec .isPresent (holding 0x01 [0xAA, 0xBB] (reading .protocolPolled [0x02, 0x01, 0x01]))) =
      some ⟨[.ok (.present false)], wdr 0x01, false, none, []⟩ := by decide
/-- V9 row 1. -/
theorem test_waitUntilPresent :
    seen (exec .waitUntilPresent (sensing .low)) =
      some ⟨[.ok .done], [.level 4], false, none, []⟩ := by decide
/-- V9 row 2, first poll. -/
theorem test_waitUntilPresent_goes_on :
    seen (exec .waitUntilPresent (sensing .high)) =
      some ⟨[], [.level 4, .delay 10], false, none, []⟩ := by decide
/-- V9 row 11. -/
theorem test_waitUntilAbsent :
    seen (exec .waitUntilAbsent (reading .protocolPolled [0x02, 0x01, 0xFF])) =
      some ⟨[.ok .done], wdr 0x01, false, none, []⟩ := by decide
/-- V9 row 8, first poll. -/
theorem test_waitUntilAbsent_goes_on :
    seen (exec .waitUntilAbsent (holding 0x01 [0xAA, 0xBB] (sensing .low))) =
      some ⟨[], [.level 4, .delay 500], true, some 0x01, [0xAA, 0xBB]⟩ := by decide
/-- V10 row 1. -/
theorem test_unassignedE : seen (exec .unassignedE (given [])) = plain (.err .refused) := by decide
theorem test_unassignedF : seen (exec .unassignedF (given [])) = plain (.err .refused) := by decide
/-- V10 row 2. -/
theorem test_busy_refuses : seen (exec .getUid (waiting .pinSensed)) = plain (.err .refused) := by decide

/-! ### The frames, in their phases -/

/-- A block with this operation in progress at this phase. -/
def inPhase (i : Instr) (p : Phase) (s : State) : State := { s with current := some i, phase := p }

/-- The phase reached, and the result that waits for DONE. -/
def reached (o : Host.Outcome State Fault Refusal) : Option (Phase × Option Result) :=
  match o with
  | .next t => some (t.phase, t.outcome)
  | .fault _ => none
  | .refused _ => none

/-- V1 row 2 as bits in TXBUF. -/
theorem test_cmdFrame :
    (match exec (.cmdFrame 0x01) (given []) with
      | .next t => t.txBytes
      | .fault _ => []
      | .refused _ => []) = [0b00000001, 0b00000001] := by decide
theorem test_cmdFrameSelectMifare :
    seen (exec .cmdFrameSelectMifare (inPhase .selectTag .txWrite (reading .pinSensed []))) =
      some ⟨[], [.write 0x50 [0x01, 0x01]], false, none, []⟩ := by decide
theorem test_cmdFrameGetFirmware :
    reached (exec .cmdFrameGetFirmware (inPhase .getFirmware .txWrite (block .pinSensed [.ioError] [] [] []))) =
      some (.done, some (.err .ioError)) := by decide
theorem test_respFrame :
    reached (exec (.respFrame 0xF0 [0x00, 0x53]) (inPhase .getFirmware .decode (given []))) =
      some (.decode, none) := by decide
/-- S6: the fields of the response, and the record still to be written. -/
theorem test_respSelect :
    (match exec (.respSelect 0x01 0x00 [0xAA, 0xBB] (some 0x01)) (inPhase .selectTag .decode (given [])) with
      | .next t => some (t.phase, t.found, t.sel)
      | .fault _ => none
      | .refused _ => none) = some (.commit, some (.selected 0x01 [0xAA, 0xBB]), false) := by decide
/-- V4 row 5; R34: the MalformedFrame arises in DECODE and goes to COMMIT. -/
theorem test_respSelect_without_type :
    reached (exec (.respSelect 0x01 0x00 [] none) (inPhase .selectTag .decode (given []))) =
      some (.commit, some (.err .malformedFrame)) := by decide
/-- R38: FWID exists from DECODE on. -/
theorem test_respFirmware :
    (match exec (.respFirmware 0xF0 0x7E [0xD3, 0xCC]) (inPhase .getFirmware .decode (given [])) with
      | .next t => some (t.phase, t.fwid)
      | .fault _ => none
      | .refused _ => none) = some (.validate, some [0xD3, 0xCC]) := by decide
/-- V3 row 6 as VALIDATE inside GET_FIRMWARE. -/
theorem test_validate_phase :
    reached (sequencerStep { inPhase .getFirmware .validate (given []) with fwid := some [0xD3, 0xCC, 0xB0] }) =
      some (.done, some (.ok (.firmware [0xD3, 0xCC, 0xB0] .clockSpeedCorruption))) := by decide

/-! ### Witnesses: for each statement with hypotheses, something that meets them -/

theorem block_quiet (m : PresenceMode) (w : List WriteAnswer) (r : List ReadAnswer) (l : List Level)
    (c : List Bool) : (block m w r l c).Quiet := ⟨rfl, rfl, rfl, rfl, rfl, rfl, rfl⟩

theorem given_quiet (operand : List Byte) : (given operand).Quiet := ⟨rfl, rfl, rfl, rfl, rfl, rfl, rfl⟩

theorem holding_quiet (t : Byte) (uid operand : List Byte) : (holding t uid (given operand)).Quiet :=
  ⟨rfl, rfl, rfl, rfl, rfl, rfl, rfl⟩

/-- A block at rest meets the invariant, here with a record and an operation presented. -/
def presented (w : BitVec 12) : State := { holding 0x01 [0xAA, 0xBB] (given []) with program := [⟨w, []⟩] }

theorem presented_inv (w : BitVec 12) : (presented w).Inv :=
  State.Quiet.inv ⟨rfl, rfl, rfl, rfl, rfl, rfl, rfl⟩ ⟨by simp [presented, holding], by simp [presented, holding],
    by simp [presented, holding, uidMax]⟩ (Nat.zero_le 15) (by intro k a n h; simp [presented, holding, given, block,
      State.construct] at h) (by simp [presented, holding, given, block, State.construct])

/-- A busy block that meets the invariant: a wait at POLL. -/
theorem waiting_inv (m : PresenceMode) : (waiting m).Inv := by
  constructor <;> simp [waiting, block, State.construct, legalAt, ReadsPaced]
  constructor <;> simp

/-- A block that starts a firmware read, with a record. -/
def fetching (m : PresenceMode) : State := inPhase .getFirmware .encode (holding 0x01 [0xAA, 0xBB] (reading m []))

theorem fetching_inv (m : PresenceMode) : (fetching m).Inv := by
  constructor <;> simp [fetching, inPhase, holding, reading, block, State.construct, legalAt, ReadsPaced]
  constructor <;> simp [uidMax]

/-- EncodedInstructionsDecodeToThemselves, at the bounds of every format. -/
theorem witness_wellFormed :
    (Instr.respFrame 0xFF [0x00]).wellFormed = true ∧
    (Instr.respFrame 0xFF (List.replicate 13 0xFF)).wellFormed = true ∧
    (Instr.respSelect 0x01 0x01 [] none).wellFormed = true ∧
    (Instr.respSelect 0x01 0x00 (List.replicate 11 0xFF) (some 0x00)).wellFormed = true ∧
    (Instr.respFirmware 0xF0 0x00 []).wellFormed = true ∧
    (Instr.respFirmware 0xF0 0xFF (List.replicate 12 0xFF)).wellFormed = true ∧
    (Instr.typeName 0xFF).wellFormed = true ∧ (Instr.cmdFrame 0xFF).wellFormed = true := by decide

/-- WellFormedResponsesAreTheCheckedOnes, V2 rows 6 and 14: both sides hold. -/
theorem witness_response :
    decodeResponse [0x02, 0x01, 0x09] 3 = .ok ⟨0x02, 0x01, [0x09]⟩ ∧
    decodeResponse [0x0E, 1, 2, 3, 4, 5, 6, 7, 8, 9, 10, 11, 12, 13, 14] 15 =
      .ok ⟨0x0E, 0x01, [2, 3, 4, 5, 6, 7, 8, 9, 10, 11, 12, 13, 14]⟩ := by decide

/-- LengthByteWithBitSevenIsMalformed, the bounds. -/
theorem witness_bit_seven :
    (List.length ([] : List Byte) + 1 ≤ 15 ∧ (0x80 : Byte).msb = true) ∧
    ((List.replicate 14 (0x00 : Byte)).length + 1 ≤ 15 ∧ (0xFF : Byte).msb = true) := by decide

/-- StepKeepsTheInvariant, StepNeverStops, ConfigurationNeverChanges, HistoryAndResultsOnlyGrow: an idle block
that runs an operation, and a busy one that polls. -/
theorem witness_step :
    ((presented 0x700).Inv ∧ ∃ t, step (presented 0x700) = .next t) ∧
    ((waiting .pinSensed).Inv ∧ ∃ t, step (waiting .pinSensed) = .next t) :=
  ⟨⟨presented_inv _, _, rfl⟩, waiting_inv _, _, rfl⟩

/-- StepRunsWhatIsPresented, each clause. -/
theorem witness_presented :
    ((presented 0x700).phase = .idle ∧ (presented 0x700).program = ⟨0x700, []⟩ :: []) ∧
    ((given []).phase = .idle ∧ (given []).program = []) ∧
    ({ waiting .pinSensed with overlapping := [⟨0x600, []⟩] } : State).phase ≠ .idle ∧
    ((waiting .pinSensed).phase ≠ .idle ∧ (waiting .pinSensed).overlapping = []) := by decide

/-- BusyBlockRefusesEveryOperation, StepRefusesOverlappingWords. -/
theorem witness_busy :
    Instr.selectTag.port = .hostWord ∧ (waiting .protocolPolled).busy = true ∧
    ({ waiting .pinSensed with overlapping := [⟨0xFFF, [0x01]⟩] } : State).busy = true ∧
    ({ waiting .pinSensed with overlapping := [⟨0xFFF, [0x01]⟩] } : State).overlapping =
      ⟨0xFFF, [0x01]⟩ :: [] := by decide

/-- ReadsFollowWriteAndTurnaround: a run with a Read in its history. -/
theorem witness_run : (waiting .protocolPolled).Inv ∧
    ∃ t, runSteps 5 (waiting .protocolPolled) = .next t ∧ t.history = wdr 0x01 :=
  ⟨waiting_inv _, _, rfl, rfl⟩

/-- SequencerFollowsThePhaseOrder. -/
theorem witness_sequencer : (waiting .protocolPolled).Inv ∧
    (waiting .protocolPolled).current = some .waitUntilPresent ∧
    ∃ t, sequencerStep (waiting .protocolPolled) = .next t ∧ t.phase = .encode :=
  ⟨waiting_inv _, rfl, _, rfl, rfl⟩

/-- OperationsEndIdleOrWait, each outcome; OperationsAreTheirPhases. -/
theorem witness_operations :
    ((given []).Quiet ∧ Instr.deselect.port = .hostWord) ∧
    ((sensing .high).Quiet ∧ ∃ t, exec .waitUntilPresent (sensing .high) = .next t ∧ t.phase = .poll) :=
  ⟨⟨given_quiet _, rfl⟩, block_quiet _ _ _ _ _, _, rfl, rfl⟩

/-- OtherOperationsLeaveTheRecord, an operation and a step inside one, in both modes; OnlyWaitsSampleCancel. -/
theorem witness_others :
    ((sensing .low).cfg.mode = .pinSensed ∧ ∃ t, exec .waitUntilPresent (sensing .low) = .next t) ∧
    (∃ t, exec .getFirmware (reading .protocolPolled []) = .next t) ∧
    ((waiting .pinSensed).Inv ∧ (waiting .pinSensed).current = some .waitUntilPresent ∧
      ∃ t, step (waiting .pinSensed) = .next t ∧ t.phase = .pollWait) ∧
    ((fetching .protocolPolled).Inv ∧ (fetching .protocolPolled).current = some .getFirmware ∧
      ∃ t, step (fetching .protocolPolled) = .next t ∧ t.phase = .txWrite) :=
  ⟨⟨rfl, _, rfl⟩, ⟨_, rfl⟩, ⟨waiting_inv _, rfl, _, rfl, rfl⟩, fetching_inv _, rfl, _, rfl, rfl⟩

/-- ModeMattersOnlyToPresence. -/
theorem witness_mode : ∃ t, exec .selectTag (reading .pinSensed [0x03, 0x01, 0x00, 0x0A]) = .next t ∧
    t.sel = true := ⟨_, rfl, rfl⟩

/-- TrailingBytesChangeNothing, with the frame filling all but the last byte, and with a length byte too big. -/
theorem witness_trailing :
    (∃ t, exec .selectTag (reading .pinSensed [0x02, 0x01, 0x01, 0x99]) = .next t) ∧
    (∀ len, [(0x02 : Byte), 0x01, 0x01, 0x99][0]? = some len →
      [(0x02 : Byte), 0x01, 0x01, 0x77].take (len.toNat + 1) = [0x02, 0x01, 0x01, 0x99].take (len.toNat + 1)) ∧
    (∀ len, [(0xFF : Byte), 0x01][0]? = some len →
      [(0xFF : Byte), 0x01].take (len.toNat + 1) = [0xFF, 0x01].take (len.toNat + 1)) :=
  ⟨⟨_, rfl⟩, by simp, by simp⟩

/-- SelectReadsNoRecord. -/
theorem witness_select_idle : (reading .pinSensed [0x03, 0x01, 0x00, 0x0A]).phase = .idle ∧
    ∃ t, exec .selectTag (reading .pinSensed [0x03, 0x01, 0x00, 0x0A]) = .next t := ⟨rfl, _, rfl⟩

/-- The statements whose only premise is a block at rest: EncodeCommandReturnsTheFrame, DeselectClearsTheRecord,
UidToHexRendersTwoDigitsPerByte, TypeNameCoversEveryCode, and the next ones. -/
theorem witness_rest : ∃ s : State, s.Quiet := ⟨_, given_quiet []⟩

/-- CodecIsPure. -/
theorem witness_codec : (∃ minLen, Instr.decodeFrame 3 = .decodeFrame minLen) ∧
    (given [0x02, 0x01, 0x09]).Quiet ∧ (given [0x02, 0x01, 0x09]).operand = [0x02, 0x01, 0x09] :=
  ⟨⟨_, rfl⟩, given_quiet _, rfl⟩

/-- DecodeFrameChecksThenSplits: V2 row 6, where three of the checks hold by equality, and a failure of each
check at its bound (rows 7, 1, 9, 10). -/
theorem witness_decodeFrame :
    ((given [0x02, 0x01, 0x09]).Quiet ∧ (given [0x02, 0x01, 0x09]).operand = 0x02 :: 0x01 :: [0x09] ∧
      (0x03 : Byte).toNat ≤ [(0x09 : Byte)].length + 2 ∧ 2 ≤ (0x02 : Byte).toNat ∧
      (0x02 : Byte).toNat + 1 ≤ [(0x09 : Byte)].length + 2) ∧
    (given [0x02, 0x01, 0x09]).operand.length < (0x04 : Byte).toNat ∧
    (given []).operand = [] ∧
    (∃ len rest, (given [0x01, 0x01, 0x09]).operand = len :: rest ∧ len.toNat < 2) ∧
    (∃ len rest, (given [0x03, 0x01, 0x09]).operand = len :: rest ∧ rest.length + 1 < len.toNat + 1) :=
  ⟨⟨given_quiet _, rfl, by decide, by decide, by decide⟩, by decide, rfl, ⟨_, _, rfl, by decide⟩, _, _, rfl,
    by decide⟩

/-- ValidateClassifiesTheFirstByte, each class, with neighbours of the two constants. -/
theorem witness_validate :
    (given []).operand = [] ∧ (given [0x53]).operand = 0x53 :: [] ∧ (given [0xD3, 0x4C]).operand = 0xD3 :: [0x4C] ∧
    ((given [0x52]).operand = 0x52 :: [] ∧ (0x52 : Byte) ≠ 0x53 ∧ (0x52 : Byte) ≠ 0xD3) ∧
    ((given [0xD4]).operand = 0xD4 :: [] ∧ (0xD4 : Byte) ≠ 0x53 ∧ (0xD4 : Byte) ≠ 0xD3) := by decide

/-- ExchangeIsWriteDelayRead, FailedSelectTagClears, FailedGetFirmwareLeavesTheRecord: the three ways. -/
theorem witness_exchange :
    ((block .pinSensed [.ioError] [] [] []).Quiet ∧
      (block .pinSensed [.ioError] [] [] []).writeAnswer = .ioError) ∧
    ((block .pinSensed [.ok] [.ioError] [] []).Quiet ∧
      (block .pinSensed [.ok] [.ioError] [] []).writeAnswer = .ok ∧
      (block .pinSensed [.ok] [.ioError] [] []).readAnswer = .ioError) ∧
    ((reading .pinSensed [0x02, 0x01]).Quiet ∧ (reading .pinSensed [0x02, 0x01]).writeAnswer = .ok ∧
      (reading .pinSensed [0x02, 0x01]).readAnswer = .bytes [0x02, 0x01] ∧
      decodeResponse [0x02, 0x01] 3 = .error .shorterThanMinLen ∧
      decodeResponse [0x02, 0x01] 15 = .error .shorterThanMinLen) ∧
    ((reading .pinSensed [0x02, 0x01, 0x00]).readAnswer = .bytes [0x02, 0x01, 0x00] ∧
      decodeResponse [0x02, 0x01, 0x00] 3 = .ok ⟨0x02, 0x01, [0x00]⟩ ∧
      [(0x02 : Byte), 0x01, 0x00][2]? = some 0x00 ∧ (0x02 : Byte).toNat = 2) :=
  ⟨⟨block_quiet _ _ _ _ _, rfl⟩, ⟨block_quiet _ _ _ _ _, rfl, rfl⟩,
    ⟨block_quiet _ _ _ _ _, rfl, rfl, by decide, by decide⟩, rfl, by decide, by decide, by decide⟩

/-- SelectTagSetsTheRecord, with no UID byte (V4 row 6) and with eleven (V4 row 7). -/
theorem witness_selected :
    ((reading .pinSensed [0x03, 0x01, 0x00, 0x0A]).Quiet ∧
      (reading .pinSensed [0x03, 0x01, 0x00, 0x0A]).readAnswer = .bytes [0x03, 0x01, 0x00, 0x0A] ∧
      decodeResponse [0x03, 0x01, 0x00, 0x0A] 3 = .ok ⟨0x03, 0x01, [0x00, 0x0A]⟩ ∧
      [(0x03 : Byte), 0x01, 0x00, 0x0A][2]? = some 0x00 ∧ 3 ≤ (0x03 : Byte).toNat ∧
      [(0x03 : Byte), 0x01, 0x00, 0x0A][3]? = some 0x0A) ∧
    (decodeResponse [0x0E, 0x01, 0x00, 1, 2, 3, 4, 5, 6, 7, 8, 9, 10, 11, 0x06] 3 =
        .ok ⟨0x0E, 0x01, [0x00, 1, 2, 3, 4, 5, 6, 7, 8, 9, 10, 11, 0x06]⟩ ∧
      [(0x0E : Byte), 0x01, 0x00, 1, 2, 3, 4, 5, 6, 7, 8, 9, 10, 11, 0x06][14]? = some 0x06) :=
  ⟨⟨block_quiet _ _ _ _ _, rfl, by decide, by decide, by decide, by decide⟩, by decide, by decide⟩

/-- SelectTagWithoutTagClears, the shortest response. -/
theorem witness_noTag :
    (reading .pinSensed [0x02, 0x01, 0x01]).Quiet ∧ (reading .pinSensed [0x02, 0x01, 0x01]).writeAnswer = .ok ∧
    (reading .pinSensed [0x02, 0x01, 0x01]).readAnswer = .bytes [0x02, 0x01, 0x01] ∧
    decodeResponse [0x02, 0x01, 0x01] 3 = .ok ⟨0x02, 0x01, [0x01]⟩ ∧
    [(0x02 : Byte), 0x01, 0x01][2]? = some 0x01 ∧ (0x01 : Byte) ≠ 0x00 :=
  ⟨block_quiet _ _ _ _ _, rfl, rfl, by decide, by decide, by decide⟩

/-- A 15-byte firmware response with this length byte. -/
def firmwareRead (len : Byte) : List Byte := len :: 0xF0 :: 0x00 :: List.replicate 12 0x53

/-- GetFirmwareReturnsTheIdentifier, with LEN = 2, 3 and 14 (V5 rows 5, 6, 2). -/
theorem witness_firmware :
    ((reading .pinSensed (firmwareRead 0x02)).Quiet ∧ (reading .pinSensed (firmwareRead 0x02)).writeAnswer = .ok ∧
      (reading .pinSensed (firmwareRead 0x02)).readAnswer = .bytes (firmwareRead 0x02) ∧
      decodeResponse (firmwareRead 0x02) 15 = .ok ⟨0x02, 0xF0, [0x00]⟩ ∧ (0x02 : Byte).toNat = 2) ∧
    (decodeResponse (firmwareRead 0x03) 15 = .ok ⟨0x03, 0xF0, [0x00, 0x53]⟩ ∧
      slice (firmwareRead 0x03) 3 ((0x03 : Byte).toNat - 2) = 0x53 :: []) ∧
    (decodeResponse (firmwareRead 0x0E) 15 = .ok ⟨0x0E, 0xF0, 0x00 :: List.replicate 12 0x53⟩ ∧
      slice (firmwareRead 0x0E) 3 ((0x0E : Byte).toNat - 2) = 0x53 :: List.replicate 11 0x53) :=
  ⟨⟨block_quiet _ _ _ _ _, rfl, rfl, by decide, by decide⟩, ⟨by decide, by decide⟩, by decide, by decide⟩

/-- AccessorsReportTheRecord, Selected and Idle; AccessorsAgreeWithTheLastSelect, both outcomes. -/
theorem witness_accessors :
    ((holding 0x01 [0xAA, 0xBB] (given [])).Quiet ∧ (holding 0x01 [0xAA, 0xBB] (given [])).sel = true) ∧
    ((given []).Quiet ∧ (given []).sel = false) ∧
    (∃ t, exec .selectTag (reading .pinSensed [0x03, 0x01, 0x00, 0x0A]) = .next t ∧ t.sel = true) ∧
    (∃ t, exec .selectTag (reading .pinSensed [0x02, 0x01, 0x01]) = .next t ∧ t.sel = false) :=
  ⟨⟨holding_quiet _ _ _, rfl⟩, ⟨given_quiet _, rfl⟩, ⟨_, rfl, rfl⟩, _, rfl, rfl⟩

/-- TypeNameCoversEveryCode: the codes at the edges of the table fall under one clause each. -/
theorem witness_typeName :
    ((0x00 : Byte) = 0x00 ∧ (0x07 : Byte) ≠ 0x0A ∧ 0x07 ≤ (0x07 : Byte).toNat) ∧
    ((0x09 : Byte) ≠ 0x0A ∧ 0x07 ≤ (0x09 : Byte).toNat) ∧ ((0x0B : Byte) ≠ 0x0A ∧ 0x07 ≤ (0x0B : Byte).toNat) ∧
    ((0xFF : Byte) ≠ 0x0A ∧ 0x07 ≤ (0xFF : Byte).toNat) := by decide

/-- PinSensedPresenceIsTheLevel, SatisfiedWaitReturnsAtOnce, UnsatisfiedWaitDelaysAndGoesOn: both levels. -/
theorem witness_pin :
    ((sensing .low).Quiet ∧ (sensing .low).cfg.mode = .pinSensed ∧ (sensing .low).cancelAnswer = false ∧
      (sensing .low).levelAnswer = .low) ∧
    ((sensing .high).Quiet ∧ (sensing .high).cfg.mode = .pinSensed ∧ (sensing .high).cancelAnswer = false ∧
      (sensing .high).levelAnswer = .high) :=
  ⟨⟨block_quiet _ _ _ _ _, rfl, rfl, rfl⟩, block_quiet _ _ _ _ _, rfl, rfl, rfl⟩

/-- A wait at POLL whose next CANCEL sample is 1. -/
def cancelled (i : Instr) : State := inPhase i .poll (block .protocolPolled [] [] [] [true])

/-- CancelledWaitPollsNothing, at the start and at a later iteration. -/
theorem witness_cancelled :
    ((block .protocolPolled [] [] [] [true]).Quiet ∧
      (block .protocolPolled [] [] [] [true]).cancelAnswer = true) ∧
    ((cancelled .waitUntilPresent).cancelAnswer = true ∧ (cancelled .waitUntilPresent).phase = .poll ∧
      (cancelled .waitUntilPresent).current = some .waitUntilPresent ∧
      (cancelled .waitUntilPresent).overlapping = []) ∧
    ((cancelled .waitUntilAbsent).cancelAnswer = true ∧
      (cancelled .waitUntilAbsent).current = some .waitUntilAbsent) :=
  ⟨⟨block_quiet _ _ _ _ _, rfl⟩, ⟨rfl, rfl, rfl, rfl⟩, rfl, rfl⟩

/-- ProtocolPolledPresenceIsASelect, ProtocolPolledWaitPollsBySelecting. -/
theorem witness_polled :
    (reading .protocolPolled [0x02, 0x01, 0x01]).Quiet ∧
    (reading .protocolPolled [0x02, 0x01, 0x01]).cfg.mode = .protocolPolled ∧
    (reading .protocolPolled [0x02, 0x01, 0x01]).cancelAnswer = false :=
  ⟨block_quiet _ _ _ _ _, rfl, rfl⟩

/-- This word presented, with these pin levels to come and CANCEL at 0. -/
def patient (w : BitVec 12) (l : List Level) : State :=
  { block .pinSensed [] [] l (List.replicate l.length false) with program := [⟨w, []⟩] }

theorem patient_quiet (w : BitVec 12) (l : List Level) : (patient w l).Quiet :=
  ⟨rfl, rfl, rfl, rfl, rfl, rfl, rfl⟩

/-- WaitReturnsWhenThePinDoes and WaitHasNoBound for WAIT_UNTIL_PRESENT, with no poll and with one that reads High. -/
theorem witness_patience :
    ((patient 0xC00 [.low]).Quiet ∧ (patient 0xC00 [.low]).cfg.mode = .pinSensed ∧
      (patient 0xC00 [.low]).program = [⟨0xC00, []⟩] ∧ decodeOp 0xC00 = .waitUntilPresent ∧
      (patient 0xC00 [.low]).overlapping = [] ∧
      (patient 0xC00 [.low]).levels.scripted = List.replicate 0 .high ++ .low :: [] ∧
      (patient 0xC00 [.low]).cancels.scripted = List.replicate (0 + 1) false ++ []) ∧
    ((patient 0xC00 [.high, .low]).levels.scripted = List.replicate 1 .high ++ .low :: [] ∧
      (patient 0xC00 [.high, .low]).cancels.scripted = List.replicate (1 + 1) false ++ []) ∧
    ((patient 0xC00 [.high, .high]).levels.scripted = List.replicate (1 + 1) .high ++ [] ∧
      (patient 0xC00 [.high, .high]).cancels.scripted = List.replicate (1 + 1) false ++ []) :=
  ⟨⟨patient_quiet _ _, rfl, rfl, by decide, rfl, rfl, rfl⟩, ⟨rfl, rfl⟩, rfl, rfl⟩

/-- The same two for WAIT_UNTIL_ABSENT, with one poll that reads Low. -/
theorem witness_patience_absent :
    ((patient 0xD00 [.low, .high]).Quiet ∧ (patient 0xD00 [.low, .high]).cfg.mode = .pinSensed ∧
      (patient 0xD00 [.low, .high]).program = [⟨0xD00, []⟩] ∧ decodeOp 0xD00 = .waitUntilAbsent ∧
      (patient 0xD00 [.low, .high]).overlapping = [] ∧
      (patient 0xD00 [.low, .high]).levels.scripted = List.replicate 1 .low ++ .high :: [] ∧
      (patient 0xD00 [.low, .high]).cancels.scripted = List.replicate (1 + 1) false ++ []) ∧
    ((patient 0xD00 [.low]).levels.scripted = List.replicate (0 + 1) .low ++ [] ∧
      (patient 0xD00 [.low]).cancels.scripted = List.replicate (0 + 1) false ++ []) :=
  ⟨⟨patient_quiet _ _, rfl, rfl, by decide, rfl, rfl, rfl⟩, rfl, rfl⟩

/-- TheTwoCommandFramesAreSent, SelectResponseIsCommitted, SelectResponseDecidesAPoll,
FirmwareResponseIsValidated: each answer, each operation in progress, each kind of identifier. -/
theorem witness_phases :
    (block .pinSensed [.ok] [] [] []).writeAnswer = .ok ∧
    (block .pinSensed [.ioError] [] [] []).writeAnswer = .ioError ∧
    (inPhase .selectTag .decode (given [])).current = some .selectTag ∧
    (inPhase .isPresent .decode (given [])).current = some .isPresent ∧
    (inPhase .waitUntilPresent .decode (given [])).current = some .waitUntilPresent ∧
    (inPhase .waitUntilAbsent .decode (given [])).current = some .waitUntilAbsent ∧
    (0x01 : Byte) ≠ 0x00 ∧ ([] : List Byte) = [] ∧ ([0x53] : List Byte) = 0x53 :: [] := by decide

end Sys2Proof.Tests
end

section
/-! PROOF. What a step can do, said once: the moves of the sequencer (spec/10_state.md R34), one for each way out of
a phase, and the ways a host operation ends. The obligations on steps are read off these. -/

namespace Sys2Proof.Machine

/-- One of the two waits is in progress. -/
def State.Waiting (s : State) : Prop :=
  s.current = some .waitUntilPresent ∨ s.current = some .waitUntilAbsent

/-- An unwanted presence: the wait leaves its poll for POLL_WAIT (R181, R182). -/
def State.pollAgain (s : State) : State :=
  { s with frame := none, found := none, outcome := none, phase := .pollWait }

/-- The moves of the sequencer (R34): for each phase, what it can lead to. -/
inductive Move (s : State) : State → Prop
  | atRest (h : s.phase = .idle) : Move s s
  | loaded (h : s.phase = .encode) : Move s { s.loadCommand s.commandCode with phase := .txWrite }
  | sent (h : s.phase = .txWrite) :
      Move s { (s.loadCommand s.commandCode).busWrite with phase := .turnaround }
  | writeFailed (h : s.phase = .txWrite) : Move s ((s.loadCommand s.commandCode).busWrite.failExchange .ioError)
  | turned (h : s.phase = .turnaround) : Move s { s.delay tTurnaround with phase := .rxRead }
  | received (h : s.phase = .rxRead) (raw : List Byte) (fits : raw.length ≤ maxFrame) :
      Move s { (s.busRead.storeResponse raw).closeSession with phase := .decode }
  | readFailed (h : s.phase = .rxRead) : Move s (s.busRead.failExchange .ioError)
  | malformed (h : s.phase = .decode) : Move s (s.failExchange .malformedFrame)
  | fieldsMalformed (h : s.phase = .decode) (hc : s.current ≠ some .getFirmware) (e : ErrorKind) :
      Move s (State.failExchange e { s with frame := none, found := none })
  | selectDecoded (h : s.phase = .decode) (hc : s.current ≠ some .getFirmware) (f : ResponseFrame)
      (hf : decodeResponse s.rxBytes 0 = .ok f) (r : SelectResult) (hr : selectReading f = .ok r) :
      Move s { s with frame := some f, found := some r, phase := .commit }
  | firmwareDecoded (h : s.phase = .decode) (hc : s.current = some .getFirmware) (f : ResponseFrame)
      (hf : decodeResponse s.rxBytes 0 = .ok f) :
      Move s { s with frame := some f, fwid := some f.payload.tail, phase := .validate }
  | judged (h : s.phase = .validate) (v : Value) : Move s (s.endWith (.ok v))
  | notJudged (h : s.phase = .validate) (e : ErrorKind) :
      Move s (State.endWith (.err e) { s.loseRxBuf with frame := none })
  | committed (h : s.phase = .commit) (r : Except ErrorKind SelectResult)
      (hr : ∀ x, r = .ok x → s.found = some x) (v : Result) : Move s ((s.recordOf r).endWith v)
  | notWanted (h : s.phase = .commit) (hc : s.Waiting) (r : Except ErrorKind SelectResult)
      (hr : ∀ x, r = .ok x → s.found = some x) : Move s (s.recordOf r).pollAgain
  | pinAnswered (h : s.phase = .poll) (hc : s.current = some .isPresent) (v : Result) : Move s (s.pinRead.endWith v)
  | cancelled (h : s.phase = .poll) (hc : s.Waiting) : Move s (s.cancelSample.endWith (.err .cancelled))
  | pinWanted (h : s.phase = .poll) (hc : s.Waiting) (hm : s.cfg.mode = .pinSensed) :
      Move s (s.cancelSample.pinRead.endWith (.ok .done))
  | pinNotWanted (h : s.phase = .poll) (hc : s.Waiting) (hm : s.cfg.mode = .pinSensed) :
      Move s s.cancelSample.pinRead.pollAgain
  | selecting (h : s.phase = .poll) (hc : s.Waiting) (hm : s.cfg.mode = .protocolPolled) :
      Move s { s.cancelSample with phase := .encode }
  | waited (h : s.phase = .pollWait) (hc : s.Waiting) (ms : Nat) (hms : ms = tPollPresent ∨ ms = tPollAbsent) :
      Move s { s.delay ms with phase := .poll }
  | delivered (h : s.phase = .done) (r : Result) : Move s (s.deliver r)

/-! ### Every move is one of these -/

theorem exec_commandRow (s : State) : exec s.commandRow s = .next (s.sendCommand s.commandCode) := by
  unfold State.commandRow State.commandCode
  split <;> rfl

theorem Move.of_sendCommand {s : State} (h : s.phase = .txWrite) : Move s (s.sendCommand s.commandCode) := by
  unfold State.sendCommand
  dsimp only
  split
  · exact .sent h
  · exact .writeFailed h

theorem Move.of_receive {s : State} (h : s.phase = .rxRead) : Move s s.receive := by
  unfold State.receive
  split
  · exact .readFailed h
  · next raw hr => exact .received h raw (readAnswer_fits hr)

theorem Move.of_decodeRead {s t : State} (h : s.phase = .decode) (ht : s.decodeRead = .next t) : Move s t := by
  rcases decodeRead_cases s with ⟨d, _, e⟩ | ⟨f, hf, ⟨hc, e⟩ | ⟨k, hc, _, e⟩ | ⟨r, hc, hr, e⟩⟩ <;>
    rw [e] at ht <;> cases ht
  · exact .malformed h
  · exact .firmwareDecoded h hc f (decodeResponse_mono (Nat.zero_le _) hf)
  · exact .fieldsMalformed h hc k
  · exact .selectDecoded h hc f (decodeResponse_mono (Nat.zero_le _) hf) r hr

theorem Move.of_judge {s : State} (h : s.phase = .validate) (id : List Byte) : Move s (s.judge id) := by
  unfold State.judge
  split
  · exact .notJudged h _
  · exact .judged h _

/-- A poll's answer ends the operation or, in a wait, asks for another poll. -/
theorem afterPoll_cases (wanted : Bool) (p : Except ErrorKind Bool) (s : State) :
    (∃ v, s.afterPoll wanted p = s.endWith v) ∨ s.afterPoll wanted p = s.pollAgain := by
  unfold State.afterPoll
  split
  · exact .inl ⟨_, rfl⟩
  · split
    · exact .inl ⟨_, rfl⟩
    · exact .inr rfl

theorem afterSelect_cases (i : Instr) (r : Except ErrorKind SelectResult) (s : State) :
    (∃ v, afterSelect i r s = s.endWith v) ∨
      ((i = .waitUntilPresent ∨ i = .waitUntilAbsent) ∧ afterSelect i r s = s.pollAgain) := by
  unfold afterSelect
  split
  · exact .inl ⟨_, rfl⟩
  · exact (afterPoll_cases _ _ s).imp_right fun h => ⟨.inl rfl, h⟩
  · exact (afterPoll_cases _ _ s).imp_right fun h => ⟨.inr rfl, h⟩
  · exact .inl ⟨_, rfl⟩

/-- With no operation in progress COMMIT ends like a SELECT_TAG. -/
theorem commitSelect_cases (r : Except ErrorKind SelectResult) (s : State) :
    (∃ v, s.commitSelect r = (s.recordOf r).endWith v) ∨
      (s.Waiting ∧ s.commitSelect r = (s.recordOf r).pollAgain) := by
  cases hc : s.current with
  | none =>
    refine .inl ⟨resultOf (r.map SelectResult.value), ?_⟩
    unfold State.commitSelect State.recordOf
    split <;> simp [hc]
  | some i =>
    rw [commitSelect_eq i r s hc]
    refine (afterSelect_cases i r _).imp_right fun ⟨hi, e⟩ => ⟨?_, e⟩
    rcases hi with rfl | rfl
    · exact .inl hc
    · exact .inr hc

theorem Move.of_commitSelect {s : State} (h : s.phase = .commit) (r : Except ErrorKind SelectResult)
    (hr : ∀ x, r = .ok x → s.found = some x) : Move s (s.commitSelect r) := by
  rcases commitSelect_cases r s with ⟨v, e⟩ | ⟨hc, e⟩ <;> rw [e]
  · exact .committed h r hr v
  · exact .notWanted h hc r hr

theorem Move.of_pollOnce {s : State} (h : s.phase = .poll) (hc : s.Waiting) (wanted : Bool) :
    Move s (s.pollOnce wanted) := by
  unfold State.pollOnce
  split
  · exact .cancelled h hc
  · split
    · next hm =>
      unfold State.afterPoll
      dsimp only
      split
      · exact .pinWanted h hc hm
      · exact .pinNotWanted h hc hm
    · next hm => exact .selecting h hc hm

/-- Whatever a move of the sequencer answers is one of the moves of R34. -/
theorem move_of_sequencerStep {s t : State} (ht : sequencerStep s = .next t) : Move s t := by
  unfold sequencerStep at ht
  split at ht
  case h_1 h => cases ht; exact .atRest h
  case h_2 h => cases ht; exact .loaded h
  case h_3 h => rw [exec_commandRow] at ht; cases ht; exact .of_sendCommand h
  case h_4 h => cases ht; exact .turned h
  case h_5 h => cases ht; exact .of_receive h
  case h_6 h => exact .of_decodeRead h ht
  case h_7 h =>
    split at ht <;> cases ht
    exact .of_judge h _
  case h_8 h =>
    split at ht <;> cases ht
    · next r hr => exact .of_commitSelect h _ fun x hx => by cases hx; exact hr
    · exact .of_commitSelect h _ nofun
  case h_9 h =>
    split at ht <;> cases ht
    · next hc => exact .pinAnswered h hc _
    · next hc => exact .of_pollOnce h (.inl hc) _
    · next hc => exact .of_pollOnce h (.inr hc) _
  case h_10 h =>
    split at ht <;> cases ht
    · next hc => exact .waited h (.inl hc) _ (.inl rfl)
    · next hc => exact .waited h (.inr hc) _ (.inr rfl)
  case h_11 h =>
    split at ht <;> cases ht
    exact .delivered h _

end Sys2Proof.Machine
end

section
/-! PROOF. What a host operation has done by the time its result is known, and the four kinds of step. -/

namespace Sys2Proof.Machine

/-! ### The exchange inside an operation -/

/-- What an exchange leaves (R71), whichever way it goes. -/
inductive Exchanged (cmd : Byte) (s : State) : State → Prop
  | writeFailed : Exchanged cmd s (s.afterWrite cmd).closeSession.loseRxBuf
  | readFailed : Exchanged cmd s (s.afterAsking cmd).closeSession.loseRxBuf
  | read (raw : List Byte) (fits : raw.length ≤ maxFrame) : Exchanged cmd s (s.afterRead cmd raw).closeSession
  | malformed (raw : List Byte) (fits : raw.length ≤ maxFrame) :
      Exchanged cmd s (s.afterRead cmd raw).closeSession.loseRxBuf

theorem Exchanged.of_verdict {α : Type} {s : State} (cmd : Byte) {raw : List Byte} (fits : raw.length ≤ maxFrame)
    (v : Except ErrorKind α) : Exchanged cmd s ((s.afterRead cmd raw).closeSession.afterVerdict v) := by
  cases v
  · exact .malformed raw fits
  · exact .read raw fits

theorem readFirmware_exchanged (s : State) : Exchanged s.cfg.cmdGetFirmware s (readFirmware s).2 := by
  rcases readFirmware_cases s with ⟨_, e⟩ | ⟨_, _, e⟩ | ⟨raw, _, _, fits, e⟩ <;> rw [e]
  · exact .writeFailed
  · exact .readFailed
  · exact .of_verdict _ fits _

/-- A select is an exchange and a write of the record (R25), of at most eleven UID bytes (R23). -/
theorem selectTag_exchanged (s : State) : ∃ u r, Exchanged s.cfg.cmdSelectMifare s u ∧
    (selectTag s).2 = u.recordOf r ∧ ∀ c uid, r = .ok (.selected c uid) → uid.length ≤ uidMax := by
  rcases selectTag_cases s with ⟨_, e⟩ | ⟨_, _, e⟩ | ⟨raw, _, _, fits, e⟩ <;> rw [e]
  · exact ⟨_, .error .ioError, .writeFailed, rfl, nofun⟩
  · exact ⟨_, .error .ioError, .readFailed, rfl, nofun⟩
  · exact ⟨_, _, .of_verdict _ fits _, rfl, fun c uid h => selectVerdict_fits fits h⟩

/-! ### An operation up to its result -/

/-- A host operation's work on an idle block, up to its result. -/
def beforeResult : Instr → State → State
  | .selectTag, s => (selectTag s).2
  | .getFirmware, s => (readFirmware s).2
  | .deselect, s => s.clearRecord
  | .isPresent, s => (pollPresence s).2
  | .waitUntilPresent, s => if s.cancelAnswer then s.cancelSample else (pollPresence s.cancelSample).2
  | .waitUntilAbsent, s => if s.cancelAnswer then s.cancelSample else (pollPresence s.cancelSample).2
  | _, s => s

theorem waitIteration_cases (me : Instr) (wanted : Bool) (interval : Nat) (s : State) :
    (∃ r, waitIteration me wanted interval s =
      (if s.cancelAnswer then s.cancelSample else (pollPresence s.cancelSample).2).conclude r) ∨
    waitIteration me wanted interval s =
      (if s.cancelAnswer then s.cancelSample else (pollPresence s.cancelSample).2).keepWaiting me interval := by
  unfold waitIteration
  split
  · exact .inl ⟨.error .cancelled, rfl⟩
  · cases pollPresence s.cancelSample with
    | mk r u =>
      cases r with
      | error e => exact .inl ⟨.error e, rfl⟩
      | ok present =>
        dsimp only
        split
        · exact .inl ⟨.ok .done, rfl⟩
        · exact .inr rfl

/-- A host operation on an idle block ends with a result, goes on waiting, or is refused. -/
theorem hostEffect_cases (i : Instr) (s : State) :
    (∃ r, hostEffect i s = (beforeResult i s).conclude r) ∨
    ((i = .waitUntilPresent ∨ i = .waitUntilAbsent) ∧ ∃ ms, (ms = tPollPresent ∨ ms = tPollAbsent) ∧
      hostEffect i s = (beforeResult i s).keepWaiting i ms) ∨
    hostEffect i s = s.refuse := by
  cases i with
  | waitUntilPresent =>
    rcases waitIteration_cases .waitUntilPresent true tPollPresent s with h | h
    · exact .inl h
    · exact .inr (.inl ⟨.inl rfl, tPollPresent, .inl rfl, h⟩)
  | waitUntilAbsent =>
    rcases waitIteration_cases .waitUntilAbsent false tPollAbsent s with h | h
    · exact .inl h
    · exact .inr (.inl ⟨.inr rfl, tPollAbsent, .inr rfl, h⟩)
  | encodeCommand cmd => exact .inl ⟨.ok _, rfl⟩
  | decodeFrame minLen => exact .inl ⟨_, rfl⟩
  | validate => exact .inl ⟨_, rfl⟩
  | selectTag => exact .inl ⟨_, rfl⟩
  | getFirmware => exact .inl ⟨_, rfl⟩
  | deselect => exact .inl ⟨.ok _, rfl⟩
  | getUid => exact .inl ⟨.ok _, rfl⟩
  | getUidHex => exact .inl ⟨.ok _, rfl⟩
  | getType => exact .inl ⟨.ok _, rfl⟩
  | typeName code => exact .inl ⟨.ok _, rfl⟩
  | uidToHex => exact .inl ⟨.ok _, rfl⟩
  | isPresent => exact .inl ⟨_, rfl⟩
  | _ => exact .inr (.inr rfl)

/-- What holds of `s` and is kept by the pieces an operation is made of holds when its result is known. -/
theorem beforeResult_induction {P : State → Prop} (i : Instr) {s : State} (h : P s)
    (clear : ∀ u, P u → P u.clearRecord) (pin : ∀ u, P u → P u.pinRead) (cancel : ∀ u, P u → P u.cancelSample)
    (select : ∀ u, P u → P (selectTag u).2) (firmware : ∀ u, P u → P (readFirmware u).2) :
    P (beforeResult i s) := by
  have poll : ∀ u, P u → P (pollPresence u).2 := by
    intro u hu
    unfold pollPresence
    split
    · exact pin u hu
    · exact select u hu
  have wait : P (if s.cancelAnswer then s.cancelSample else (pollPresence s.cancelSample).2) := by
    split
    · exact cancel s h
    · exact poll _ (cancel s h)
  cases i with
  | selectTag => exact select s h
  | getFirmware => exact firmware s h
  | deselect => exact clear s h
  | isPresent => exact poll s h
  | waitUntilPresent => exact wait
  | waitUntilAbsent => exact wait
  | _ => exact h

/-! ### The end of an operation -/

@[simp] theorem State.conclude_cfg (s : State) (r : Except ErrorKind Value) : (s.conclude r).cfg = s.cfg := by
  cases r <;> rfl
@[simp] theorem State.conclude_sel (s : State) (r : Except ErrorKind Value) : (s.conclude r).sel = s.sel := by
  cases r <;> rfl
@[simp] theorem State.conclude_cardType (s : State) (r : Except ErrorKind Value) :
    (s.conclude r).cardType = s.cardType := by
  cases r <;> rfl
@[simp] theorem State.conclude_uid (s : State) (r : Except ErrorKind Value) : (s.conclude r).uid = s.uid := by
  cases r <;> rfl
@[simp] theorem State.conclude_history (s : State) (r : Except ErrorKind Value) :
    (s.conclude r).history = s.history := by
  cases r <;> rfl
@[simp] theorem State.conclude_results (s : State) (r : Except ErrorKind Value) :
    (s.conclude r).results = s.results ++ [⟨s.history.length, resultOf r⟩] := by
  cases r <;> rfl

/-! ### The step -/

/-- The four kinds of step. -/
theorem step_cases {s t : State} (h : step s = .next t) :
    (s.phase = .idle ∧ t = s) ∨
    (s.phase = .idle ∧ ∃ i rest operand, t = hostEffect i { s with program := rest, operand := operand }) ∨
    (s.phase ≠ .idle ∧ ∃ rest, t = ({ s with overlapping := rest } : State).refuse) ∨
    (s.phase ≠ .idle ∧ Move s t) := by
  by_cases hi : s.phase = .idle
  · cases hp : s.program with
    | nil =>
      simp only [step, hi, hp] at h
      cases h
      exact .inl ⟨hi, rfl⟩
    | cons r rest =>
      have hs := (step_of_idle hi hp).trans (exec_of_idle (decodeOp_port _) hi)
      cases hs.symm.trans h
      exact .inr (.inl ⟨hi, _, _, _, rfl⟩)
  · cases ho : s.overlapping with
    | nil => exact .inr (.inr (.inr ⟨hi, move_of_sequencerStep (step_of_busy hi ho ▸ h)⟩))
    | cons r rest =>
      have hs : step s = exec (decodeOp r.word) { s with overlapping := rest } := by
        unfold step
        split
        · contradiction
        · rw [ho]
      cases (hs.trans (exec_of_busy (decodeOp_port _) (by simpa [State.busy] using hi))).symm.trans h
      exact .inr (.inr (.inl ⟨hi, rest, rfl⟩))

end Sys2Proof.Machine
end

section
/-! PROOF. Construction, the configuration, the record of events and results, the phase order, and who writes the tag
record. -/

namespace Sys2Proof.Machine

/-! ### Construction -/

theorem construct_quiet (c : Config) : (State.construct c).Quiet := ⟨rfl, rfl, rfl, rfl, rfl, rfl, rfl⟩

theorem construct_cleared (c : Config) : (State.construct c).Cleared := ⟨rfl, rfl, rfl⟩

/-- A cleared record is whole (R24). -/
theorem State.Cleared.recordOk {s : State} (h : s.Cleared) : s.RecordOk := by
  obtain ⟨hs, hc, hu⟩ := h
  exact ⟨fun _ => ⟨hc, hu⟩, by simp [hs], by simp [hu]⟩

/-- Settles O6: every part is how the block is constructed. -/
theorem constructionLeavesAnIdleClearedBlock : Obligations.ConstructionLeavesAnIdleClearedBlock :=
  ⟨fun c => ⟨construct_quiet c, construct_cleared c, rfl, rfl, rfl, rfl, rfl⟩, rfl⟩

/-- Settles O7: at rest with a cleared record and an empty history there is nothing to check. -/
theorem constructionMeetsTheInvariant : Obligations.ConstructionMeetsTheInvariant := fun c =>
  (construct_quiet c).inv (construct_cleared c).recordOk (Nat.zero_le _)
    (by intro k a n hk; simp [State.construct] at hk) (by simp [State.construct])

/-! ### The configuration -/

@[simp] theorem State.failExchange_cfg (e : ErrorKind) (s : State) : (s.failExchange e).cfg = s.cfg := rfl

theorem Exchanged.cfg {cmd : Byte} {s u : State} (h : Exchanged cmd s u) : u.cfg = s.cfg := by
  cases h <;> rfl

@[simp] theorem readFirmware_cfg (s : State) : (readFirmware s).2.cfg = s.cfg :=
  (readFirmware_exchanged s).cfg

@[simp] theorem selectTag_cfg (s : State) : (selectTag s).2.cfg = s.cfg := by
  obtain ⟨u, r, hu, e, _⟩ := selectTag_exchanged s
  rw [e, State.recordOf_cfg, hu.cfg]

@[simp] theorem beforeResult_cfg (i : Instr) (s : State) : (beforeResult i s).cfg = s.cfg :=
  beforeResult_induction (P := fun u => u.cfg = s.cfg) i rfl (fun _ h => h) (fun _ h => h) (fun _ h => h)
    (fun u h => (selectTag_cfg u).trans h) (fun u h => (readFirmware_cfg u).trans h)

theorem hostEffect_cfg (i : Instr) (s : State) : (hostEffect i s).cfg = s.cfg := by
  rcases hostEffect_cases i s with ⟨r, e⟩ | ⟨_, ms, _, e⟩ | e <;> rw [e] <;> simp

theorem Move.cfg {s t : State} (h : Move s t) : t.cfg = s.cfg := by
  cases h <;> simp [State.pollAgain]

/-- Settles O14: neither the effect of an operation, nor a refusal, nor a move of the sequencer writes it. -/
theorem configurationNeverChanges : Obligations.ConfigurationNeverChanges := by
  intro s t h
  rcases step_cases h with ⟨_, rfl⟩ | ⟨_, i, rest, operand, rfl⟩ | ⟨_, rest, rfl⟩ | ⟨_, hm⟩
  · rfl
  · exact hostEffect_cfg _ _
  · rfl
  · exact hm.cfg

/-! ### Events and results -/

/-- Events are only added and no result is handed over. -/
def State.Worked (s u : State) : Prop := s.history <+: u.history ∧ u.results = s.results

theorem Exchanged.worked {cmd : Byte} {s u : State} (h : Exchanged cmd s u) : s.Worked u := by
  cases h <;> exact ⟨List.prefix_append _ _, rfl⟩

theorem readFirmware_worked (s : State) : s.Worked (readFirmware s).2 := (readFirmware_exchanged s).worked

theorem selectTag_worked (s : State) : s.Worked (selectTag s).2 := by
  obtain ⟨u, r, hu, e, _⟩ := selectTag_exchanged s
  rw [e]
  exact ⟨by simpa using hu.worked.1, by simpa using hu.worked.2⟩

theorem State.Worked.trans {s u v : State} (h : s.Worked u) (h' : u.Worked v) : s.Worked v :=
  ⟨h.1.trans h'.1, h'.2.trans h.2⟩

theorem beforeResult_worked (i : Instr) (s : State) : s.Worked (beforeResult i s) :=
  beforeResult_induction i ⟨List.prefix_rfl, rfl⟩ (fun _ h => h) (fun _ h => h.trans ⟨List.prefix_append _ _, rfl⟩)
    (fun _ h => h) (fun u h => h.trans (selectTag_worked u)) (fun u h => h.trans (readFirmware_worked u))

/-- What a step may do to the two records (R40, R13). -/
def State.Recorded (s t : State) : Prop :=
  s.history <+: t.history ∧ (t.results = s.results ∨ ∃ r, t.results = s.results ++ [r])

theorem State.Worked.recorded {s t : State} (h : s.Worked t) : s.Recorded t := ⟨h.1, .inl h.2⟩

theorem hostEffect_recorded (i : Instr) (s : State) : s.Recorded (hostEffect i s) := by
  obtain ⟨hh, hr⟩ := beforeResult_worked i s
  rcases hostEffect_cases i s with ⟨r, e⟩ | ⟨_, ms, _, e⟩ | e <;> rw [e]
  · exact ⟨by simpa using hh, .inr ⟨_, by rw [State.conclude_results, hr]⟩⟩
  · exact ⟨hh.trans (List.prefix_append _ _), .inl hr⟩
  · exact ⟨List.prefix_rfl, .inr ⟨_, rfl⟩⟩

/-- A move causes at most one event, and only DONE hands over a result. -/
theorem Move.recorded {s t : State} (h : Move s t) : s.Recorded t := by
  cases h
  case sent | writeFailed | turned | received | readFailed | pinAnswered | pinWanted | pinNotWanted | waited =>
    exact State.Worked.recorded ⟨List.prefix_append _ _, rfl⟩
  case delivered => exact ⟨List.prefix_rfl, .inr ⟨_, rfl⟩⟩
  case committed r _ v => exact State.Worked.recorded ⟨by simp, by simp⟩
  case notWanted r _ => exact State.Worked.recorded ⟨by simp [State.pollAgain], by simp [State.pollAgain]⟩
  all_goals exact State.Worked.recorded ⟨List.prefix_rfl, rfl⟩

/-- Settles O15: an operation, a refusal and a move of the sequencer each only add to the two records. -/
theorem historyAndResultsOnlyGrow : Obligations.HistoryAndResultsOnlyGrow := by
  intro s t h
  have hst : s.Recorded t := by
    rcases step_cases h with ⟨_, rfl⟩ | ⟨_, i, rest, operand, rfl⟩ | ⟨_, rest, rfl⟩ | ⟨_, hm⟩
    · exact ⟨List.prefix_rfl, .inl rfl⟩
    · exact hostEffect_recorded i { s with program := rest, operand := operand }
    · exact ⟨List.prefix_rfl, .inr ⟨_, rfl⟩⟩
    · exact hm.recorded
  obtain ⟨⟨events, he⟩, hr⟩ := hst
  exact ⟨⟨events, he.symm⟩, hr⟩

/-! ### The phase order -/

/-- Where a failed exchange leads is in the order of every phase of an exchange that can fail. -/
theorem phaseAfterError_mem {mode : PresenceMode} {i : Instr} {p : Phase}
    (hp : p = .txWrite ∨ p = .rxRead ∨ p = .decode) : phaseAfterError (some i) ∈ nextPhases mode i p := by
  rw [phaseAfterError_eq]
  rcases hp with rfl | rfl | rfl <;> by_cases h : i = .getFirmware <;> simp [nextPhases, h]

theorem Move.phase_mem {s t : State} {i : Instr} (h : Move s t) (hc : s.current = some i) (hb : s.phase ≠ .idle) :
    t.phase ∈ nextPhases s.cfg.mode i s.phase := by
  have failed {u : State} {e : ErrorKind} (hu : u.current = s.current)
      (hp : s.phase = .txWrite ∨ s.phase = .rxRead ∨ s.phase = .decode) :
      (u.failExchange e).phase ∈ nextPhases s.cfg.mode i s.phase := by
    change phaseAfterError u.current ∈ _
    rw [hu, hc]
    exact phaseAfterError_mem hp
  have waits (hw : s.Waiting) : i = .waitUntilPresent ∨ i = .waitUntilAbsent := by
    simpa [State.Waiting, hc] using hw
  cases h
  case atRest hp => exact absurd hp hb
  case writeFailed hp => exact failed rfl (.inl hp)
  case readFailed hp => exact failed rfl (.inr (.inl hp))
  case malformed hp => exact failed rfl (.inr (.inr hp))
  case fieldsMalformed hp _ e => exact failed rfl (.inr (.inr hp))
  case selectDecoded hp hg f hf r hr =>
    have : i ≠ .getFirmware := by simpa [hc] using hg
    simp [nextPhases, hp, this]
  case firmwareDecoded hp hg f hf =>
    have : i = .getFirmware := by simpa [hc] using hg
    simp [nextPhases, hp, this]
  case committed hp r hr v =>
    by_cases hw : i = .waitUntilPresent ∨ i = .waitUntilAbsent <;> simp [nextPhases, hp, hw]
  case notWanted hp hw r hr => simp [nextPhases, hp, waits hw, State.pollAgain]
  case pinAnswered hp hi v =>
    have : i = .isPresent := by simpa [hc] using hi
    simp [nextPhases, hp, this]
  case cancelled hp hw =>
    cases hm : s.cfg.mode <;> rcases waits hw with rfl | rfl <;> simp [nextPhases, hp]
  case pinWanted hp hw hm => rcases waits hw with rfl | rfl <;> simp [nextPhases, hp, hm]
  case pinNotWanted hp hw hm => rcases waits hw with rfl | rfl <;> simp [nextPhases, hp, hm, State.pollAgain]
  case selecting hp hw hm => rcases waits hw with rfl | rfl <;> simp [nextPhases, hp, hm]
  all_goals simp [nextPhases, *]

/-- Settles O17: with an operation in progress the block is busy, and each move is in the order. -/
theorem sequencerFollowsThePhaseOrder : Obligations.SequencerFollowsThePhaseOrder := by
  intro s t i hinv hc h
  exact (move_of_sequencerStep h).phase_mem hc fun hp => by simp [hinv.atRest.1 hp] at hc

/-! ### Who writes the tag record -/

theorem State.SameRecord.refl (s : State) : s.SameRecord s := ⟨rfl, rfl, rfl⟩

theorem Exchanged.sameRecord {cmd : Byte} {s u : State} (h : Exchanged cmd s u) : s.SameRecord u := by
  cases h <;> exact ⟨rfl, rfl, rfl⟩

/-- The operations that write no record (R25). -/
def KeepsRecord (mode : PresenceMode) (i : Instr) : Prop :=
  i ≠ .selectTag ∧ i ≠ .deselect ∧
    (mode = .pinSensed ∨ (i ≠ .isPresent ∧ i ≠ .waitUntilPresent ∧ i ≠ .waitUntilAbsent))

theorem pollPresence_pinSensed {s : State} (h : s.cfg.mode = .pinSensed) :
    pollPresence s = (.ok (presentAt s.levelAnswer), s.pinRead) := by
  simp only [pollPresence, h]

theorem pollPresence_sameRecord {s : State} (h : s.cfg.mode = .pinSensed) : s.SameRecord (pollPresence s).2 := by
  rw [pollPresence_pinSensed h]
  exact ⟨rfl, rfl, rfl⟩

theorem beforeResult_sameRecord {i : Instr} {s : State} (h : KeepsRecord s.cfg.mode i) :
    s.SameRecord (beforeResult i s) := by
  obtain ⟨hsel, hdes, hpoll⟩ := h
  have wait (hm : s.cfg.mode = .pinSensed) :
      s.SameRecord (if s.cancelAnswer then s.cancelSample else (pollPresence s.cancelSample).2) := by
    split
    · exact .refl s
    · exact pollPresence_sameRecord (s := s.cancelSample) hm
  cases i with
  | selectTag => contradiction
  | deselect => contradiction
  | getFirmware => exact (readFirmware_exchanged s).sameRecord
  | isPresent => exact pollPresence_sameRecord (by simpa using hpoll)
  | waitUntilPresent => exact wait (by simpa using hpoll)
  | waitUntilAbsent => exact wait (by simpa using hpoll)
  | _ => exact .refl s

theorem hostEffect_sameRecord {i : Instr} {s : State} (h : KeepsRecord s.cfg.mode i) :
    s.SameRecord (hostEffect i s) := by
  obtain ⟨h1, h2, h3⟩ := beforeResult_sameRecord h
  rcases hostEffect_cases i s with ⟨r, e⟩ | ⟨_, ms, _, e⟩ | e <;> rw [e]
  · exact ⟨by simpa using h1, by simpa using h2, by simpa using h3⟩
  · exact ⟨h1, h2, h3⟩
  · exact ⟨rfl, rfl, rfl⟩

/-- Only COMMIT writes the record. -/
theorem Move.sameRecord {s t : State} (h : Move s t) (hp : s.phase ≠ .commit) : s.SameRecord t := by
  cases h
  case committed h r hr v => exact absurd h hp
  case notWanted h hc r hr => exact absurd h hp
  all_goals exact ⟨rfl, rfl, rfl⟩

/-- An operation that writes no record is never at COMMIT (R34). -/
theorem KeepsRecord.not_runsSelect {mode : PresenceMode} {i : Instr} (h : KeepsRecord mode i) :
    runsSelect mode i = false := by
  obtain ⟨hsel, _, hpoll⟩ := h
  cases i <;> cases mode <;> simp_all [runsSelect]

/-- Settles O19: such an operation has no select in it, and in progress it never stands at COMMIT. -/
theorem otherOperationsLeaveTheRecord : Obligations.OtherOperationsLeaveTheRecord := by
  intro i s t hsel hdes hpoll
  have hk : KeepsRecord s.cfg.mode i := ⟨hsel, hdes, hpoll⟩
  refine ⟨fun hport he => ?_, fun hinv hc h => ?_⟩
  · rcases exec_hostWord_cases hport he with ⟨_, rfl⟩ | ⟨_, rfl⟩
    · exact ⟨rfl, rfl, rfl⟩
    · exact hostEffect_sameRecord hk
  · have hb : s.phase ≠ .idle := fun hp => by simp [hinv.atRest.1 hp] at hc
    rcases step_cases h with ⟨hp, _⟩ | ⟨hp, _⟩ | ⟨_, rest, rfl⟩ | ⟨_, hm⟩
    · exact absurd hp hb
    · exact absurd hp hb
    · exact ⟨rfl, rfl, rfl⟩
    · refine hm.sameRecord fun hp => ?_
      have := hinv.position i hc
      simp [hp, legalAt, hk.not_runsSelect] at this

end Sys2Proof.Machine
end

section
/-! PROOF. The invariant is kept. It is taken in two parts: what it says whatever the phase (the record, the read count,
the events), kept by every piece of an operation, and what it says of the phase, established once for each kind of
phase a move can reach. -/

namespace Sys2Proof.Machine

/-! ### The part that no phase changes -/

/-- The invariant's part on the record, the read count and the events. -/
structure State.Sound (s : State) : Prop where
  record : s.RecordOk
  rxFits : s.rxCnt ≤ maxFrame
  paced  : ReadsPaced s.cfg.devAddr s.history
  legal  : ∀ e ∈ s.history, LegalEvent s.cfg e

theorem State.Inv.sound {s : State} (h : s.Inv) : s.Sound := ⟨h.record, h.rxFits, h.paced, h.legal⟩

theorem State.RecordOk.congr {s t : State} (h : s.RecordOk) (e : s.SameRecord t) : t.RecordOk := by
  obtain ⟨hs, hc, hu⟩ := e
  exact ⟨by rw [hs, hc, hu]; exact h.cleared, by rw [hs, hc]; exact h.set, by rw [hu]; exact h.fits⟩

theorem State.Sound.congr {s t : State} (h : s.Sound) (hr : s.SameRecord t) (hx : t.rxCnt = s.rxCnt)
    (hc : t.cfg = s.cfg) (hh : t.history = s.history) : t.Sound :=
  ⟨h.record.congr hr, by rw [hx]; exact h.rxFits, by rw [hc, hh]; exact h.paced, by rw [hc, hh]; exact h.legal⟩

theorem legal_snoc {c : Config} {h : List Event} {e : Event} (hl : ∀ e ∈ h, LegalEvent c e) (he : LegalEvent c e) :
    ∀ e' ∈ h ++ [e], LegalEvent c e' := by
  intro e' hm
  rcases List.mem_append.1 hm with hm | hm
  · exact hl e' hm
  · rw [List.mem_singleton.1 hm]; exact he

theorem State.Sound.emit {s : State} (h : s.Sound) {e : Event} (he : LegalEvent s.cfg e)
    (hn : ∀ a n, e ≠ .read a n) : (s.emit e).Sound :=
  ⟨h.record.congr ⟨rfl, rfl, rfl⟩, h.rxFits, h.paced.snoc e hn, legal_snoc h.legal he⟩

theorem State.Sound.delay {s : State} (h : s.Sound) {ms : Nat}
    (he : ms = tTurnaround ∨ ms = tPollPresent ∨ ms = tPollAbsent) : (s.delay ms).Sound :=
  h.emit he nofun

theorem State.Sound.pinRead {s : State} (h : s.Sound) : s.pinRead.Sound :=
  (h.emit (e := .level s.cfg.pin) rfl nofun).congr ⟨rfl, rfl, rfl⟩ rfl rfl rfl

theorem State.Sound.cancelSample {s : State} (h : s.Sound) : s.cancelSample.Sound :=
  h.congr ⟨rfl, rfl, rfl⟩ rfl rfl rfl

/-- R83: the two codes the block sends. -/
def Config.Sends (c : Config) (cmd : Byte) : Prop := cmd = c.cmdSelectMifare ∨ cmd = c.cmdGetFirmware

theorem commandCode_sends (s : State) : Config.Sends s.cfg s.commandCode := by
  unfold State.commandCode
  split
  · exact .inr rfl
  · exact .inl rfl

theorem State.Sound.emitWrite {s : State} (h : s.Sound) {cmd : Byte} (hs : Config.Sends s.cfg cmd) :
    (s.emit (.write s.cfg.devAddr [0x01, cmd])).Sound :=
  h.emit ⟨rfl, hs.imp (congrArg fun c => [0x01, c]) (congrArg fun c => [0x01, c])⟩ nofun

theorem State.Sound.busWrite {s : State} (h : s.Sound) {cmd : Byte} (hs : Config.Sends s.cfg cmd)
    (ht : s.txBytes = [0x01, cmd]) : s.busWrite.Sound :=
  (h.emitWrite hs).congr ⟨rfl, rfl, rfl⟩ rfl rfl (congrArg (fun b => s.history ++ [.write s.cfg.devAddr b]) ht)

/-- TX_WRITE: the frame of the operation in progress goes out. -/
theorem State.Sound.written {s : State} (h : s.Sound) : (s.loadCommand s.commandCode).busWrite.Sound :=
  State.Sound.busWrite (h.congr ⟨rfl, rfl, rfl⟩ rfl rfl rfl) (commandCode_sends s) (txBytes_loadCommand s _)

/-- The read of an exchange stands behind its write and its delay. -/
theorem State.Sound.busRead {s : State} (h : s.Sound) {before : List Event} {cmd : Byte}
    (hh : s.history = before ++ [.write s.cfg.devAddr [0x01, cmd], .delay tTurnaround]) : s.busRead.Sound := by
  refine ⟨h.record.congr ⟨rfl, rfl, rfl⟩, h.rxFits, ?_, legal_snoc h.legal ⟨rfl, rfl⟩⟩
  have hp := h.paced
  rw [hh] at hp
  have := ReadsPaced.snoc_read s.cfg.devAddr maxFrame hp
  rwa [← hh] at this

theorem State.Sound.storeResponse {s : State} (h : s.Sound) {raw : List Byte} (fits : raw.length ≤ maxFrame) :
    (s.storeResponse raw).Sound :=
  ⟨h.record.congr ⟨rfl, rfl, rfl⟩, fits, h.paced, h.legal⟩

/-- A select writes the record as a whole (R24). -/
theorem State.Sound.recordOf {s : State} (h : s.Sound) {r : Except ErrorKind SelectResult}
    (fits : ∀ c uid, r = .ok (.selected c uid) → uid.length ≤ uidMax) : (s.recordOf r).Sound := by
  have hr : (s.recordOf r).RecordOk := by
    unfold State.recordOf
    split
    · next c uid => exact ⟨nofun, fun _ => nofun, fits c uid rfl⟩
    · exact State.Cleared.recordOk ⟨rfl, rfl, rfl⟩
    · exact State.Cleared.recordOk ⟨rfl, rfl, rfl⟩
  exact ⟨hr, by simpa using h.rxFits, by simpa using h.paced, by simpa using h.legal⟩

theorem State.Sound.clearRecord {s : State} (h : s.Sound) : s.clearRecord.Sound :=
  h.recordOf (r := .ok .noTag) nofun

theorem State.Sound.afterAsking {s : State} (h : s.Sound) {cmd : Byte} (hs : Config.Sends s.cfg cmd) :
    (s.afterAsking cmd).Sound :=
  State.Sound.congr
    (((h.emitWrite hs).delay (.inl rfl)).busRead (before := s.history) (cmd := cmd) (by simp [State.emit, State.delay]))
    ⟨rfl, rfl, rfl⟩ rfl rfl (by simp [State.emit, State.delay, State.busRead, State.afterAsking])

theorem Exchanged.sound {cmd : Byte} {s u : State} (hu : Exchanged cmd s u) (h : s.Sound)
    (hs : Config.Sends s.cfg cmd) : u.Sound := by
  cases hu with
  | writeFailed => exact (h.emitWrite hs).congr ⟨rfl, rfl, rfl⟩ rfl rfl rfl
  | readFailed => exact (h.afterAsking hs).congr ⟨rfl, rfl, rfl⟩ rfl rfl rfl
  | read raw fits => exact ((h.afterAsking hs).storeResponse fits).congr ⟨rfl, rfl, rfl⟩ rfl rfl rfl
  | malformed raw fits => exact ((h.afterAsking hs).storeResponse fits).congr ⟨rfl, rfl, rfl⟩ rfl rfl rfl

theorem readFirmware_sound {s : State} (h : s.Sound) : (readFirmware s).2.Sound :=
  (readFirmware_exchanged s).sound h (.inr rfl)

theorem selectTag_sound {s : State} (h : s.Sound) : (selectTag s).2.Sound := by
  obtain ⟨u, r, hu, e, fits⟩ := selectTag_exchanged s
  rw [e]
  exact (hu.sound h (.inl rfl)).recordOf fits

/-! ### The part on the response: view, FWID and fields found -/

/-- The view is the parse of RXBUF, FWID and the fields found are what it says (R32, R38, R87). -/
structure State.Fields (s : State) : Prop where
  view  : ∀ f, s.frame = some f → decodeResponse s.rxBytes 0 = .ok f
  fwid  : ∀ id, s.fwid = some id →
            s.current = some .getFirmware ∧ id.length ≤ fwMax ∧ ∀ f, s.frame = some f → f.payload.tail = id
  found : ∀ r, s.found = some r → ∃ f, s.frame = some f ∧ selectReading f = .ok r

/-- Nothing of a response is held, and no result. -/
structure State.Bare (s : State) : Prop where
  noOutcome : s.outcome = none
  noFrame   : s.frame = none
  noFwid    : s.fwid = none
  noFound   : s.found = none

theorem State.Fields.of_none {s : State} (hf : s.frame = none) (hw : s.fwid = none) (hx : s.found = none) : s.Fields :=
  ⟨by simp [hf], by simp [hw], by simp [hx]⟩

theorem State.Inv.fields {s : State} (h : s.Inv) : s.Fields where
  view f hf := (h.view f hf).1
  fwid id hid := (h.fwid id hid).2
  found r hr := (h.found r hr).2

/-- Outside VALIDATE, COMMIT and DONE there is none of the transient state of a response (R20 (c)). -/
theorem State.Inv.bare {s : State} (h : s.Inv) (hp : s.phase ∉ [.validate, .commit, .done]) : s.Bare := by
  simp only [List.mem_cons, List.not_mem_nil, or_false] at hp
  refine ⟨?_, ?_, ?_, ?_⟩ <;> by_contra hne
  · exact hp (.inr (h.outcome hne))
  · obtain ⟨f, hf⟩ := Option.ne_none_iff_exists'.1 hne
    exact hp (h.view f hf).2
  · obtain ⟨id, hid⟩ := Option.ne_none_iff_exists'.1 hne
    exact hp ((h.fwid id hid).1.imp_right .inr)
  · obtain ⟨r, hr⟩ := Option.ne_none_iff_exists'.1 hne
    exact hp (.inr (h.found r hr).1)

theorem rxBytes_length_le (s : State) : s.rxBytes.length ≤ maxFrame := by
  simp [State.rxBytes, readRegs]

/-- R38: an identifier inside a 15-byte read has at most twelve bytes. -/
theorem payload_tail_fits {raw : List Byte} {m : Nat} {f : ResponseFrame} (fits : raw.length ≤ maxFrame)
    (hf : decodeResponse raw m = .ok f) : f.payload.tail.length ≤ fwMax := by
  obtain ⟨rest, hraw, _, _, hin, _⟩ := decodeResponse_cases hf
  have := (decodeResponse_payload_length hf).1
  rw [List.length_tail]
  unfold maxFrame at fits
  unfold fwMax
  omega

/-- R23: a UID inside a 15-byte read has at most eleven bytes. -/
theorem selectReading_fits {raw : List Byte} {m : Nat} {f : ResponseFrame} {c : Byte} {uid : List Byte}
    (fits : raw.length ≤ maxFrame) (hf : decodeResponse raw m = .ok f)
    (hr : selectReading f = .ok (.selected c uid)) : uid.length ≤ uidMax := by
  have htail := payload_tail_fits fits hf
  obtain ⟨status, rest, hp⟩ := decodeResponse_payload_cons hf
  rw [hp] at htail
  simp only [selectReading, hp, selectOutcome] at hr
  split at hr
  · cases hr
  · split at hr
    · cases hr
    · next t ht =>
      cases hr
      have : 0 < rest.length := List.length_pos_iff.2 fun h => by simp [h] at ht
      simp only [List.tail_cons] at htail
      rw [List.length_dropLast]
      unfold fwMax at htail
      unfold uidMax
      omega

/-! ### The part on the phase -/

/-- An operation that may run an exchange has its end at DONE. -/
theorem legalAt_done_of_runsSelect {mode : PresenceMode} {i : Instr} (h : runsSelect mode i = true) :
    legalAt mode .done i = true := by
  cases i with
  | selectTag => rfl
  | isPresent => rfl
  | waitUntilPresent => rfl
  | waitUntilAbsent => rfl
  | _ => cases h

/-- Every operation in progress can come to DONE. -/
theorem legalAt_done {mode : PresenceMode} {p : Phase} {i : Instr} (h : legalAt mode p i = true) :
    legalAt mode .done i = true := by
  have exchange (h : (runsSelect mode i || decide (i = .getFirmware)) = true) : legalAt mode .done i = true := by
    rcases Bool.or_eq_true_iff.1 h with h | h
    · exact legalAt_done_of_runsSelect h
    · simp [legalAt, of_decide_eq_true h]
  cases p with
  | idle => cases h
  | encode => exact exchange h
  | txWrite => exact exchange h
  | turnaround => exact exchange h
  | rxRead => exact exchange h
  | decode => exact exchange h
  | commit => exact legalAt_done_of_runsSelect h
  | done => exact h
  | validate => simp_all [legalAt]
  | poll =>
    simp only [legalAt, Bool.or_eq_true, Bool.and_eq_true, decide_eq_true_eq] at h ⊢
    tauto
  | pollWait =>
    simp only [legalAt, Bool.or_eq_true, decide_eq_true_eq] at h ⊢
    tauto

/-- The phases between two events of an operation, without a response. -/
theorem State.Inv.of_bare {s : State} {i : Instr} (h : s.Sound) (b : s.Bare) (hc : s.current = some i)
    (hl : legalAt s.cfg.mode s.phase i = true)
    (hp : s.phase ∉ [.idle, .validate, .commit, .done])
    (session : s.session = true ↔ s.phase = .turnaround ∨ s.phase = .rxRead)
    (sending : s.phase = .txWrite → s.txBytes = [0x01, s.commandCode])
    (sent : s.phase = .turnaround →
      ∃ before, s.history = before ++ [.write s.cfg.devAddr [0x01, s.commandCode]])
    (reading : s.phase = .rxRead → ∃ before,
      s.history = before ++ [.write s.cfg.devAddr [0x01, s.commandCode], .delay tTurnaround]) : s.Inv := by
  obtain ⟨ho, hf, hw, hx⟩ := b
  simp only [List.mem_cons, List.not_mem_nil, or_false, not_or] at hp
  obtain ⟨hidle, hval, hcom, hdone⟩ := hp
  exact
    { record := h.record, rxFits := h.rxFits, paced := h.paced, legal := h.legal
      atRest := by simp [hidle, hc]
      position := by simp [hc, hl]
      session := session
      outcome := absurd ho
      finished := fun hp => absurd hp hdone
      view := by simp [hf]
      validates := fun hp => absurd hp hval
      commits := fun hp => absurd hp hcom
      fwid := by simp [hw]
      found := by simp [hx]
      sending := sending, sent := sent, reading := reading }

/-- The phases outside an exchange, or at its ends. -/
theorem State.Inv.of_closed {s : State} {i : Instr} (h : s.Sound) (b : s.Bare) (hc : s.current = some i)
    (hl : legalAt s.cfg.mode s.phase i = true) (hp : s.phase ∈ [.encode, .decode, .poll, .pollWait])
    (hs : s.session = false) : s.Inv := by
  simp only [List.mem_cons, List.not_mem_nil, or_false] at hp
  rcases hp with hp | hp | hp | hp <;>
    exact .of_bare h b hc hl (by simp [hp]) (by simp [hp, hs]) (by simp [hp]) (by simp [hp]) (by simp [hp])

/-- The response has been looked into: VALIDATE, COMMIT and DONE. -/
theorem State.Inv.of_fields {s : State} {i : Instr} (h : s.Sound) (b : s.Fields) (hc : s.current = some i)
    (hl : legalAt s.cfg.mode s.phase i = true) (hp : s.phase = .validate ∨ s.phase = .commit ∨ s.phase = .done)
    (hs : s.session = false)
    (outcome : s.outcome ≠ none → s.phase = .commit ∨ s.phase = .done)
    (finished : s.phase = .done → s.outcome ≠ none)
    (validates : s.phase = .validate → s.frame ≠ none ∧ s.fwid ≠ none ∧ s.found = none)
    (commits : s.phase = .commit → s.fwid = none ∧
      ((∃ e, s.outcome = some (.err e)) ∧ s.found = none ∨ s.outcome = none ∧ s.found ≠ none)) : s.Inv where
  record := h.record
  rxFits := h.rxFits
  paced := h.paced
  legal := h.legal
  atRest := by rcases hp with hp | hp | hp <;> simp [hp, hc]
  position := by simp [hc, hl]
  session := by rcases hp with hp | hp | hp <;> simp [hp, hs]
  outcome := outcome
  finished := finished
  view f hf := ⟨b.view f hf, hp⟩
  validates hp := ⟨(validates hp).1, (validates hp).2.1⟩
  commits hp := (commits hp).2
  fwid id hid := by
    refine ⟨hp.imp_right fun hp => hp.resolve_left fun hp => ?_, b.fwid id hid⟩
    simp [(commits hp).1] at hid
  found r hr := by
    refine ⟨hp.resolve_left fun hp => ?_, b.found r hr⟩
    simp [(validates hp).2.2] at hr
  sending hp' := by rcases hp with hp | hp | hp <;> simp [hp] at hp'
  sent hp' := by rcases hp with hp | hp | hp <;> simp [hp] at hp'
  reading hp' := by rcases hp with hp | hp | hp <;> simp [hp] at hp'

theorem State.Inv.endWith {s : State} {i : Instr} (h : s.Sound) (b : s.Fields) (hc : s.current = some i)
    (hl : legalAt s.cfg.mode .done i = true) (hs : s.session = false) (r : Result) : (s.endWith r).Inv :=
  .of_fields (h.congr ⟨rfl, rfl, rfl⟩ rfl rfl rfl) ⟨b.view, b.fwid, b.found⟩ hc hl (.inr (.inr rfl)) hs
    (fun _ => .inr rfl) (fun _ => nofun) nofun nofun

/-- A failed exchange leads to COMMIT or DONE with its error and no response (R34). -/
theorem State.Inv.failExchange {s : State} {i : Instr} (h : s.Sound) (hc : s.current = some i)
    (hl : legalAt s.cfg.mode .decode i = true) (hf : s.frame = none) (hw : s.fwid = none) (hx : s.found = none)
    (e : ErrorKind) : (s.failExchange e).Inv := by
  have hp : (s.failExchange e).phase = if i = .getFirmware then .done else .commit := by
    change phaseAfterError s.current = _
    rw [phaseAfterError_eq, hc]
    simp
  have hs : (s.failExchange e).Sound := h.congr ⟨rfl, rfl, rfl⟩ rfl rfl rfl
  have hb : (s.failExchange e).Fields := .of_none hf hw hx
  by_cases hi : i = .getFirmware
  · rw [if_pos hi] at hp
    exact .of_fields hs hb hc (by rw [hp]; exact legalAt_done hl) (by simp [hp]) rfl (by simp [hp])
      (fun _ => nofun) (by simp [hp]) (by simp [hp])
  · rw [if_neg hi] at hp
    have hcommit : legalAt s.cfg.mode .commit i = true := by simpa [legalAt, hi] using hl
    exact .of_fields hs hb hc (by rw [hp]; exact hcommit) (by simp [hp]) rfl (by simp [hp])
      (fun _ => nofun) (by simp [hp])
      (fun _ => ⟨hw, .inl ⟨⟨e, rfl⟩, hx⟩⟩)

/-! ### Every move keeps it -/

/-- The two waits can stand at POLL and at POLL_WAIT. -/
theorem State.Waiting.legalAt {s : State} {i : Instr} (h : s.Waiting) (hc : s.current = some i)
    {p : Phase} (hp : p = .poll ∨ p = .pollWait) (mode : PresenceMode) : legalAt mode p i = true := by
  have hi : i = .waitUntilPresent ∨ i = .waitUntilAbsent := by simpa [State.Waiting, hc] using h
  rcases hi with rfl | rfl <;> rcases hp with rfl | rfl <;> rfl

/-- Outside TURNAROUND and RX_READ no session is open (R67). -/
theorem State.Inv.closed {s : State} (h : s.Inv) (hp : s.phase ∉ [.turnaround, .rxRead]) : s.session = false := by
  simp only [List.mem_cons, List.not_mem_nil, or_false] at hp
  simpa [hp] using h.session

theorem State.Inv.pollAgain {s : State} {i : Instr} (h : s.Sound) (hc : s.current = some i) (hw : s.Waiting)
    (hs : s.session = false) (hf : s.fwid = none) : s.pollAgain.Inv :=
  .of_closed (h.congr ⟨rfl, rfl, rfl⟩ rfl rfl rfl) ⟨rfl, rfl, hf, rfl⟩ hc (hw.legalAt hc (.inr rfl) _)
    (by simp [State.pollAgain]) hs

/-- At rest, what an operation leaves meets the invariant when the part no phase changes does. -/
theorem State.Sound.inv {s : State} (h : s.Sound) (q : s.Quiet) : s.Inv :=
  q.inv h.record h.rxFits h.paced h.legal

/-- What a committed select found has at most eleven UID bytes. -/
theorem State.Inv.found_fits {s : State} (h : s.Inv) {r : Except ErrorKind SelectResult}
    (hr : ∀ x, r = .ok x → s.found = some x) : ∀ c uid, r = .ok (.selected c uid) → uid.length ≤ uidMax := by
  intro c uid hx
  obtain ⟨f, hf, hread⟩ := h.fields.found _ (hr _ hx)
  exact selectReading_fits (rxBytes_length_le s) (h.fields.view f hf) hread

theorem State.Inv.selectDecoded {s : State} {i : Instr} (h : s.Inv) (hp : s.phase = .decode)
    (hc : s.current = some i) (hi : i ≠ .getFirmware) {f : ResponseFrame} (hf : decodeResponse s.rxBytes 0 = .ok f)
    {r : SelectResult} (hr : selectReading f = .ok r) :
    ({ s with frame := some f, found := some r, phase := .commit } : State).Inv := by
  have hl := h.position i hc
  rw [hp] at hl
  obtain ⟨ho, _, hw, _⟩ := h.bare (by simp [hp])
  refine .of_fields (h.sound.congr ⟨rfl, rfl, rfl⟩ rfl rfl rfl) ⟨fun f' hf' => ?_, by simp [hw], fun r' hr' => ?_⟩ hc
    (by simpa [legalAt, hi] using hl) (by simp) (h.closed (by simp [hp])) (by simp) (by simp) (by simp)
    (by simp [ho, hw])
  · cases hf'; exact hf
  · cases hr'; exact ⟨f, rfl, hr⟩

theorem State.Inv.firmwareDecoded {s : State} (h : s.Inv) (hp : s.phase = .decode)
    (hc : s.current = some .getFirmware) {f : ResponseFrame} (hf : decodeResponse s.rxBytes 0 = .ok f) :
    ({ s with frame := some f, fwid := some f.payload.tail, phase := .validate } : State).Inv := by
  obtain ⟨ho, _, _, hx⟩ := h.bare (by simp [hp])
  refine .of_fields (h.sound.congr ⟨rfl, rfl, rfl⟩ rfl rfl rfl) ⟨fun f' hf' => ?_, fun id hid => ?_, by simp [hx]⟩ hc
    (by simp [legalAt]) (by simp) (h.closed (by simp [hp])) (by simp [ho]) (by simp) (by simp [hx]) (by simp)
  · cases hf'; exact hf
  · cases hid
    exact ⟨hc, payload_tail_fits (rxBytes_length_le s) hf, fun f' hf' => by cases hf'; rfl⟩

/-- An empty identifier: the view ends with RXBUF, FWID stays to DONE (R38, R214). -/
theorem State.Inv.notJudged {s : State} {i : Instr} (h : s.Inv) (hp : s.phase = .validate)
    (hc : s.current = some i) (e : ErrorKind) :
    (State.endWith (.err e) { s.loseRxBuf with frame := none }).Inv := by
  have hx : s.found = none := by
    by_contra hx
    obtain ⟨r, hr⟩ := Option.ne_none_iff_exists'.1 hx
    simpa [hp] using (h.found r hr).1
  refine State.Inv.endWith (s := { s.loseRxBuf with frame := none }) (h.sound.congr ⟨rfl, rfl, rfl⟩ rfl rfl rfl)
    ⟨nofun, fun id hid => ?_, by simp [hx]⟩ hc (legalAt_done (h.position i hc)) (h.closed (by simp [hp])) _
  obtain ⟨hg, hlen, _⟩ := h.fields.fwid id hid
  exact ⟨hg, hlen, nofun⟩

/-- The record written, the response and what it says are as they were. -/
theorem State.Fields.recordOf {s : State} (b : s.Fields) (r : Except ErrorKind SelectResult) :
    (s.recordOf r).Fields :=
  ⟨by simpa [State.rxBytes] using b.view, by simpa using b.fwid, by simpa using b.found⟩

theorem State.Inv.noFwid_of_commit {s : State} (h : s.Inv) (hp : s.phase = .commit) : s.fwid = none := by
  by_contra hw
  obtain ⟨id, hid⟩ := Option.ne_none_iff_exists'.1 hw
  simpa [hp] using (h.fwid id hid).1

/-- From a busy state of the invariant. -/
theorem Move.inv {s t : State} (hm : Move s t) (h : s.Inv) (hb : s.phase ≠ .idle) : t.Inv := by
  obtain ⟨i, hc⟩ := Option.ne_none_iff_exists'.1 (mt h.atRest.2 hb)
  have hl := h.position i hc
  have hd := legalAt_done hl
  obtain ⟨hview, hfwid, hfound⟩ := h.fields
  cases hm with
  | atRest hp => exact absurd hp hb
  | loaded hp =>
    rw [hp] at hl
    obtain ⟨ho, hf, hw, hx⟩ := h.bare (by simp [hp])
    have hs := h.closed (by simp [hp])
    exact .of_bare (h.sound.congr ⟨rfl, rfl, rfl⟩ rfl rfl rfl) ⟨ho, hf, hw, hx⟩ hc hl (by simp) (by simp [hs])
      (fun _ => txBytes_loadCommand s _) nofun nofun
  | sent hp =>
    rw [hp] at hl
    obtain ⟨ho, hf, hw, hx⟩ := h.bare (by simp [hp])
    exact .of_bare (h.sound.written.congr ⟨rfl, rfl, rfl⟩ rfl rfl rfl) ⟨ho, hf, hw, hx⟩ hc hl (by simp) (by simp)
      nofun (fun _ => ⟨s.history, congrArg (fun b => s.history ++ [.write s.cfg.devAddr b]) (txBytes_loadCommand s _)⟩)
      nofun
  | writeFailed hp =>
    rw [hp] at hl
    obtain ⟨ho, hf, hw, hx⟩ := h.bare (by simp [hp])
    exact .failExchange h.sound.written hc hl hf hw hx _
  | turned hp =>
    rw [hp] at hl
    obtain ⟨ho, hf, hw, hx⟩ := h.bare (by simp [hp])
    obtain ⟨before, hh⟩ := h.sent hp
    have hs : s.session = true := h.session.2 (.inl hp)
    exact .of_bare ((h.sound.delay (.inl rfl)).congr ⟨rfl, rfl, rfl⟩ rfl rfl rfl) ⟨ho, hf, hw, hx⟩ hc hl (by simp)
      (by simp [hs]) nofun nofun
      (fun _ => ⟨before, (congrArg (· ++ [Event.delay tTurnaround]) hh).trans (List.append_assoc ..)⟩)
  | received hp raw fits =>
    rw [hp] at hl
    obtain ⟨ho, hf, hw, hx⟩ := h.bare (by simp [hp])
    obtain ⟨before, hh⟩ := h.reading hp
    exact .of_closed (((h.sound.busRead hh).storeResponse fits).congr ⟨rfl, rfl, rfl⟩ rfl rfl rfl) ⟨ho, hf, hw, hx⟩
      hc hl (by simp) rfl
  | readFailed hp =>
    rw [hp] at hl
    obtain ⟨ho, hf, hw, hx⟩ := h.bare (by simp [hp])
    obtain ⟨before, hh⟩ := h.reading hp
    exact .failExchange (h.sound.busRead hh) hc hl hf hw hx _
  | malformed hp =>
    rw [hp] at hl
    obtain ⟨ho, hf, hw, hx⟩ := h.bare (by simp [hp])
    exact .failExchange h.sound hc hl hf hw hx _
  | fieldsMalformed hp _ e =>
    rw [hp] at hl
    obtain ⟨ho, hf, hw, hx⟩ := h.bare (by simp [hp])
    exact State.Inv.failExchange (s := { s with frame := none, found := none })
      (h.sound.congr ⟨rfl, rfl, rfl⟩ rfl rfl rfl) hc hl rfl hw rfl e
  | selectDecoded hp hg f hf r hr => exact h.selectDecoded hp hc (by simpa [hc] using hg) hf hr
  | firmwareDecoded hp hg f hf => exact h.firmwareDecoded hp hg hf
  | judged hp v => exact .endWith h.sound h.fields hc hd (h.closed (by simp [hp])) _
  | notJudged hp e => exact h.notJudged hp hc e
  | committed hp r hr v =>
    have hs := h.closed (by simp [hp])
    exact .endWith (i := i) (h.sound.recordOf (h.found_fits hr)) (h.fields.recordOf r) (by simpa using hc)
      (by simpa using hd) (by simpa using hs) v
  | notWanted hp hwait r hr =>
    have hs := h.closed (by simp [hp])
    have hw := h.noFwid_of_commit hp
    exact .pollAgain (h.sound.recordOf (h.found_fits hr)) (by simpa using hc) (by simpa [State.Waiting] using hwait)
      (by simpa using hs) (by simpa using hw)
  | pinAnswered hp _ v =>
    exact .endWith h.sound.pinRead ⟨hview, hfwid, hfound⟩ hc hd (h.closed (by simp [hp])) v
  | cancelled hp _ =>
    exact .endWith h.sound.cancelSample ⟨hview, hfwid, hfound⟩ hc hd (h.closed (by simp [hp])) _
  | pinWanted hp _ _ =>
    exact .endWith h.sound.cancelSample.pinRead ⟨hview, hfwid, hfound⟩ hc hd (h.closed (by simp [hp])) _
  | pinNotWanted hp hwait _ =>
    obtain ⟨ho, hf, hw, hx⟩ := h.bare (by simp [hp])
    have hs := h.closed (by simp [hp])
    exact .pollAgain h.sound.cancelSample.pinRead hc hwait hs hw
  | selecting hp hwait hm =>
    obtain ⟨ho, hf, hw, hx⟩ := h.bare (by simp [hp])
    have hs := h.closed (by simp [hp])
    have hi : i = .waitUntilPresent ∨ i = .waitUntilAbsent := by simpa [State.Waiting, hc] using hwait
    have henc : legalAt s.cfg.mode .encode i = true := by
      rcases hi with rfl | rfl <;> simp [legalAt, runsSelect, hm]
    exact .of_closed (h.sound.cancelSample.congr ⟨rfl, rfl, rfl⟩ rfl rfl rfl) ⟨ho, hf, hw, hx⟩ hc henc (by simp) hs
  | waited hp hwait ms hms =>
    obtain ⟨ho, hf, hw, hx⟩ := h.bare (by simp [hp])
    have hs := h.closed (by simp [hp])
    exact .of_closed ((h.sound.delay (.inr hms)).congr ⟨rfl, rfl, rfl⟩ rfl rfl rfl) ⟨ho, hf, hw, hx⟩ hc
      (hwait.legalAt hc (.inl rfl) _) (by simp) hs
  | delivered hp r =>
    have hs := h.closed (by simp [hp])
    exact State.Sound.inv (h.sound.congr ⟨rfl, rfl, rfl⟩ rfl rfl rfl) ⟨rfl, hs, rfl, rfl, rfl, rfl, rfl⟩

/-! ### Every step keeps it -/

/-- The invariant says nothing of what is presented, of the operand lines and of the results. -/
theorem State.Inv.present {s : State} (h : s.Inv) (program overlapping : List Request) (operand : List Byte)
    (results : List Returned) :
    ({ s with program := program, overlapping := overlapping, operand := operand, results := results } : State).Inv :=
  ⟨h.record.congr ⟨rfl, rfl, rfl⟩, h.rxFits, h.paced, h.legal, h.atRest, h.position, h.session, h.outcome, h.finished,
    h.view, h.validates, h.commits, h.fwid, h.found, h.sending, h.sent, h.reading⟩

theorem beforeResult_quiet_sound (i : Instr) {s : State} (h : s.Sound) (q : s.Quiet) :
    (beforeResult i s).Sound ∧ (beforeResult i s).Quiet :=
  beforeResult_induction (P := fun u => u.Sound ∧ u.Quiet) i ⟨h, q⟩
    (fun _ hu => ⟨hu.1.clearRecord, hu.2.recordOf (.ok .noTag)⟩)
    (fun _ hu => ⟨hu.1.pinRead, hu.2.congr rfl rfl rfl rfl rfl rfl rfl⟩)
    (fun _ hu => ⟨hu.1.cancelSample, hu.2.congr rfl rfl rfl rfl rfl rfl rfl⟩)
    (fun _ hu => ⟨selectTag_sound hu.1, hu.2.selectTag⟩)
    (fun _ hu => ⟨readFirmware_sound hu.1, hu.2.readFirmware⟩)

theorem hostEffect_inv (i : Instr) {s : State} (h : s.Inv) (hi : s.phase = .idle) : (hostEffect i s).Inv := by
  obtain ⟨hs, q⟩ := beforeResult_quiet_sound i h.sound (h.quiet hi)
  rcases hostEffect_cases i s with ⟨r, e⟩ | ⟨hw, ms, hms, e⟩ | e <;> rw [e]
  · rw [q.conclude]
    exact (hs.inv q).present _ _ _ _
  · have hwait : ((beforeResult i s).keepWaiting i ms).Waiting := hw.imp (congrArg some) (congrArg some)
    exact .of_closed ((hs.delay (.inr hms)).congr ⟨rfl, rfl, rfl⟩ rfl rfl rfl)
      ⟨q.noOutcome, q.noFrame, q.noFwid, q.noFound⟩ rfl (hwait.legalAt rfl (.inl rfl) _) (by simp) q.noSession
  · exact h.present _ _ _ _

/-- Settles O8: by the kind of step, the busy ones by the move the sequencer makes. -/
theorem stepKeepsTheInvariant : Obligations.StepKeepsTheInvariant := by
  intro s t h hst
  rcases step_cases hst with ⟨_, rfl⟩ | ⟨hi, i, rest, operand, rfl⟩ | ⟨_, rest, rfl⟩ | ⟨hb, hm⟩
  · exact h
  · exact hostEffect_inv i (h.present rest s.overlapping operand s.results) hi
  · exact h.present _ _ _ _
  · exact hm.inv h hb

end Sys2Proof.Machine
end

section
/-! PROOF. MODE (spec/10_state.md R29): the pieces of every operation but the presence operations commute with a change
of it, and none of them changes it. -/

namespace Sys2Proof.Machine

/-! ### The pieces of an operation in a block with the other MODE -/

theorem State.conclude_withMode (m : PresenceMode) (r : Except ErrorKind Value) (s : State) :
    (s.withMode m).conclude r = (s.conclude r).withMode m := by
  cases r <;> rfl

theorem exchange_withMode (m : PresenceMode) (cmd : Byte) (minLen : Nat) (s : State) :
    exchange cmd minLen (s.withMode m) =
      ((exchange cmd minLen s).1, (exchange cmd minLen s).2.withMode m) := by
  have hw : ((s.withMode m).loadCommand cmd).writeAnswer = (s.loadCommand cmd).writeAnswer := rfl
  have hr : (((s.withMode m).loadCommand cmd).busWrite.delay tTurnaround).readAnswer =
      ((s.loadCommand cmd).busWrite.delay tTurnaround).readAnswer := rfl
  simp only [exchange, hw, hr]
  cases (s.loadCommand cmd).writeAnswer with
  | ioError => rfl
  | ok =>
    cases ((s.loadCommand cmd).busWrite.delay tTurnaround).readAnswer with
    | ioError => rfl
    | bytes raw =>
      have hx : ((((s.withMode m).loadCommand cmd).busWrite.delay tTurnaround).busRead.storeResponse
          raw).closeSession.rxBytes =
        (((s.loadCommand cmd).busWrite.delay tTurnaround).busRead.storeResponse raw).closeSession.rxBytes := rfl
      simp only [hx]
      cases parseFrame (((s.loadCommand cmd).busWrite.delay tTurnaround).busRead.storeResponse
        raw).closeSession.rxBytes minLen <;> rfl

theorem selectTag_withMode (m : PresenceMode) (s : State) :
    selectTag (s.withMode m) = ((selectTag s).1, (selectTag s).2.withMode m) := by
  have hc : (s.withMode m).cfg.cmdSelectMifare = s.cfg.cmdSelectMifare := rfl
  unfold selectTag
  rw [hc, exchange_withMode]
  rcases exchange s.cfg.cmdSelectMifare minLenSelect s with ⟨e | f, u⟩
  · rfl
  · have hx : (u.withMode m).rxBytes = u.rxBytes := rfl
    simp only [hx]
    split
    · rfl
    · split
      · rfl
      · cases u.rxBytes[f.length.toNat]? <;> rfl

theorem readFirmware_withMode (m : PresenceMode) (s : State) :
    readFirmware (s.withMode m) = ((readFirmware s).1, (readFirmware s).2.withMode m) := by
  have hc : (s.withMode m).cfg.cmdGetFirmware = s.cfg.cmdGetFirmware := rfl
  unfold readFirmware
  rw [hc, exchange_withMode]
  rcases exchange s.cfg.cmdGetFirmware minLenFirmware s with ⟨e | f, u⟩
  · rfl
  · have hx : (u.withMode m).rxBytes = u.rxBytes := rfl
    simp only [hx]
    cases verdictOf (slice u.rxBytes 3 (f.length.toNat - 2)) <;> rfl

theorem State.sendCommand_withMode (m : PresenceMode) (cmd : Byte) (s : State) :
    (s.withMode m).sendCommand cmd = (s.sendCommand cmd).withMode m := by
  have hw : ((s.withMode m).loadCommand cmd).writeAnswer = (s.loadCommand cmd).writeAnswer := rfl
  simp only [State.sendCommand, hw]
  cases (s.loadCommand cmd).writeAnswer <;> rfl

/-! ### The operations -/

/-- The three operations whose behaviour MODE selects. -/
def Instr.IsPresence (i : Instr) : Prop := i = .isPresent ∨ i = .waitUntilPresent ∨ i = .waitUntilAbsent

theorem hostEffect_withMode {i : Instr} (hi : ¬ Instr.IsPresence i) (m : PresenceMode) (s : State) :
    hostEffect i (s.withMode m) = (hostEffect i s).withMode m := by
  cases i with
  | isPresent => exact absurd (.inl rfl) hi
  | waitUntilPresent => exact absurd (.inr (.inl rfl)) hi
  | waitUntilAbsent => exact absurd (.inr (.inr rfl)) hi
  | selectTag => simp only [hostEffect, selectTag_withMode, State.conclude_withMode]
  | getFirmware => simp only [hostEffect, readFirmware_withMode, State.conclude_withMode]
  | decodeFrame minLen => exact State.conclude_withMode m _ s
  | validate => exact State.conclude_withMode m _ s
  | _ => rfl

/-- A host operation in a block with the other MODE, idle or busy. -/
theorem exec_hostWord_withMode {i : Instr} {s t : State} (hp : i.port = .hostWord) (hi : ¬ Instr.IsPresence i)
    (h : exec i s = .next t) (m : PresenceMode) : exec i (s.withMode m) = .next (t.withMode m) := by
  rcases exec_hostWord_cases hp h with ⟨hb, rfl⟩ | ⟨hidle, rfl⟩
  · exact exec_of_busy (s := s.withMode m) hp hb
  · rw [exec_of_idle (s := s.withMode m) hp hidle, hostEffect_withMode hi]

/-- The moves on a frame, in a block with the other MODE. -/
theorem exec_frame_withMode {i : Instr} {s t : State} (hp : i.port ≠ .hostWord)
    (h : exec i s = .next t) (m : PresenceMode) : exec i (s.withMode m) = .next (t.withMode m) := by
  cases i with
  | cmdFrame cmd => cases h; rfl
  | cmdFrameSelectMifare => cases h; exact congrArg _ (State.sendCommand_withMode m _ s)
  | cmdFrameGetFirmware => cases h; exact congrArg _ (State.sendCommand_withMode m _ s)
  | respFrame cmd payload => cases h; rfl
  | respSelect cmd status uid type =>
    simp only [exec, execRespSelect] at h ⊢
    cases ho : selectOutcome status uid type with
    | error e => rw [ho] at h; cases h; rfl
    | ok r => rw [ho] at h; cases h; rfl
  | respFirmware cmd reserved fwid => cases h; rfl
  | _ => exact absurd rfl hp

/-! ### MODE itself -/

theorem State.sendCommand_cfg (cmd : Byte) (s : State) : (s.sendCommand cmd).cfg = s.cfg := by
  simp only [State.sendCommand]
  split <;> rfl

theorem exec_frame_cfg {i : Instr} {s t : State} (hp : i.port ≠ .hostWord) (h : exec i s = .next t) :
    t.cfg = s.cfg := by
  cases i with
  | cmdFrame cmd => cases h; rfl
  | cmdFrameSelectMifare => cases h; exact State.sendCommand_cfg _ s
  | cmdFrameGetFirmware => cases h; exact State.sendCommand_cfg _ s
  | respFrame cmd payload => cases h; rfl
  | respSelect cmd status uid type =>
    simp only [exec, execRespSelect] at h
    split at h <;> cases h <;> rfl
  | respFirmware cmd reserved fwid => cases h; rfl
  | _ => exact absurd rfl hp

theorem exec_cfg {i : Instr} {s t : State} (h : exec i s = .next t) : t.cfg = s.cfg := by
  by_cases hp : i.port = .hostWord
  · rcases exec_hostWord_cases hp h with ⟨_, rfl⟩ | ⟨_, rfl⟩
    · rfl
    · exact hostEffect_cfg i s
  · exact exec_frame_cfg hp h

/-- Settles O20: the configuration is constant, and only a presence operation looks at MODE. -/
theorem modeMattersOnlyToPresence : Obligations.ModeMattersOnlyToPresence := by
  intro i s t h
  refine ⟨by rw [exec_cfg h], fun h1 h2 h3 m => ?_⟩
  by_cases hp : i.port = .hostWord
  · exact exec_hostWord_withMode hp (by simp [Instr.IsPresence, h1, h2, h3]) h m
  · exact exec_frame_withMode hp h m

end Sys2Proof.Machine
end

section
/-! PROOF. An operation run whole and the same operation run phase by phase (spec/10_state.md R33, R34) end in the same
state. The exchange, the select, the firmware read and the end of a poll are each followed through their phases. -/

namespace Sys2Proof.Machine

/-! ### Moves in a row -/

theorem runPhases_succ {s t : State} (h : sequencerStep s = .next t) (n : Nat) :
    runPhases (n + 1) s = runPhases n t := by
  simp only [runPhases, h]

theorem runPhases_add {n : Nat} {s t : State} (h : runPhases n s = .next t) (m : Nat) :
    runPhases (n + m) s = runPhases m t := by
  induction n generalizing s with
  | zero => cases h; rw [Nat.zero_add]
  | succ n ih =>
    cases hs : sequencerStep s with
    | next u =>
      rw [runPhases_succ hs] at h
      rw [Nat.succ_add, runPhases_succ hs, ih h]
    | fault f => simp [runPhases, hs] at h
    | refused r => simp [runPhases, hs] at h

theorem runPhases_snoc {n : Nat} {s t u : State} (h : runPhases n s = .next t) (ht : sequencerStep t = .next u) :
    runPhases (n + 1) s = .next u := by
  rw [runPhases_add h, runPhases_succ ht, runPhases]

/-- `s` with the operation `i` at phase `p`, and this much of its response and its result known. -/
def State.inFlight (i : Instr) (p : Phase) (frame : Option ResponseFrame) (found : Option SelectResult)
    (outcome : Option Result) (s : State) : State :=
  { s with current := some i, phase := p, frame := frame, found := found, outcome := outcome }

/-- An operation starts without a response and without a result. -/
theorem State.Quiet.begin {s : State} (q : s.Quiet) (i : Instr) :
    s.begin i = s.inFlight i (firstPhase s.cfg.mode i) none none none := by
  obtain ⟨_, _, _, ho, hf, _, hx⟩ := q
  simp only [State.begin, State.inFlight, ← ho, ← hf, ← hx]

/-- A known result is handed over by the next move, whatever is left of the response. -/
theorem sequencerStep_endWith (r : Result) (s : State) : sequencerStep (s.endWith r) = .next (s.deliver r) :=
  sequencerStep_done rfl rfl

/-- At rest no session is open, so an error ends an operation like any other result. -/
theorem State.Quiet.deliver_resultOf {s : State} (q : s.Quiet) (r : Except ErrorKind Value) :
    s.deliver (resultOf r) = s.conclude r := by
  rw [q.deliver, q.conclude]

/-! ### The exchange -/

theorem busWrite_loadCommand (cmd : Byte) (s : State) :
    (s.loadCommand cmd).busWrite = { s.afterWrite cmd with session := true } := by
  simp [State.busWrite, State.afterWrite, State.loadCommand, State.txBytes, loadRegs_commandFrame]

theorem sendCommand_of_ok {s : State} (h : s.writeAnswer = .ok) (cmd : Byte) :
    s.sendCommand cmd = { s.afterWrite cmd with session := true, phase := .turnaround } := by
  have hw : (s.loadCommand cmd).writeAnswer = .ok := h
  simp only [State.sendCommand, hw, busWrite_loadCommand]

theorem sendCommand_of_ioError {s : State} (h : s.writeAnswer = .ioError) (cmd : Byte) :
    s.sendCommand cmd = (s.afterWrite cmd).failExchange .ioError := by
  have hw : (s.loadCommand cmd).writeAnswer = .ioError := h
  simp only [State.sendCommand, hw, busWrite_loadCommand]
  rfl

section Exchange

variable {i : Instr} {cmd : Byte} {s : State}

/-- ENCODE; TX_WRITE is then one `sendCommand`. -/
theorem runPhases_send (hcmd : (s.inFlight i .encode none none none).commandCode = cmd) :
    runPhases 2 (s.inFlight i .encode none none none) =
      .next (((s.loadCommand cmd).inFlight i .txWrite none none none).sendCommand cmd) := by
  subst hcmd
  exact runPhases_snoc (n := 1) rfl (exec_commandRow _)

/-- R71: a write that fails ends the exchange at its second phase. -/
theorem runPhases_exchange_writeFailed (hcmd : (s.inFlight i .encode none none none).commandCode = cmd)
    (hw : s.writeAnswer = .ioError) :
    runPhases 2 (s.inFlight i .encode none none none) =
      .next ((s.afterWrite cmd).closeSession.loseRxBuf.inFlight i (phaseAfterError (some i)) none none
        (some (.err .ioError))) :=
  (runPhases_send hcmd).trans (congrArg Host.Outcome.next
    (sendCommand_of_ioError (s := (s.loadCommand cmd).inFlight i .txWrite none none none) hw cmd))

/-- R71: an acknowledged write is followed by the delay, and then the transport is asked. -/
theorem runPhases_exchange_receive (hcmd : (s.inFlight i .encode none none none).commandCode = cmd)
    (hw : s.writeAnswer = .ok) :
    runPhases 4 (s.inFlight i .encode none none none) =
      .next (State.receive ((({ s.afterWrite cmd with session := true } : State).delay tTurnaround).inFlight i .rxRead
        none none none)) := by
  have h2 := (runPhases_send hcmd).trans (congrArg Host.Outcome.next
    (sendCommand_of_ok (s := (s.loadCommand cmd).inFlight i .txWrite none none none) hw cmd))
  exact runPhases_snoc (runPhases_snoc h2 rfl) rfl

theorem runPhases_exchange_readFailed (hcmd : (s.inFlight i .encode none none none).commandCode = cmd)
    (hw : s.writeAnswer = .ok) (hr : s.readAnswer = .ioError) :
    runPhases 4 (s.inFlight i .encode none none none) =
      .next ((s.afterAsking cmd).closeSession.loseRxBuf.inFlight i (phaseAfterError (some i)) none none
        (some (.err .ioError))) := by
  rw [runPhases_exchange_receive hcmd hw]
  have hr' : State.readAnswer ((({ s.afterWrite cmd with session := true } : State).delay tTurnaround).inFlight i
    .rxRead none none none) = .ioError := hr
  simp only [State.receive, hr']
  simp [State.failExchange, State.inFlight, State.afterWrite, State.afterAsking, State.busRead, State.delay, State.emit,
    State.closeSession, State.loseRxBuf]

theorem runPhases_exchange_read (hcmd : (s.inFlight i .encode none none none).commandCode = cmd)
    (hw : s.writeAnswer = .ok) {raw : List Byte} (hr : s.readAnswer = .bytes raw) :
    runPhases 4 (s.inFlight i .encode none none none) =
      .next ((s.afterRead cmd raw).closeSession.inFlight i .decode none none none) := by
  rw [runPhases_exchange_receive hcmd hw]
  have hr' : State.readAnswer ((({ s.afterWrite cmd with session := true } : State).delay tTurnaround).inFlight i
    .rxRead none none none) = .bytes raw := hr
  simp only [State.receive, hr']
  simp [State.inFlight, State.afterWrite, State.afterAsking, State.afterRead, State.busRead, State.delay, State.emit,
    State.closeSession, State.storeResponse]

end Exchange

/-! ### The select -/

theorem minLen_select {i : Instr} (hi : i ≠ .getFirmware) {s : State} (hc : s.current = some i) :
    s.minLen = minLenSelect := by
  unfold State.minLen
  rw [hc]
  split
  · next h => exact absurd (Option.some.inj h) hi
  · rfl

theorem commandCode_select {i : Instr} (hi : i ≠ .getFirmware) {s : State} (hc : s.current = some i) :
    s.commandCode = s.cfg.cmdSelectMifare := by
  unfold State.commandCode
  rw [hc]
  split
  · next h => exact absurd (Option.some.inj h) hi
  · rfl

theorem phaseAfterError_select {i : Instr} (hi : i ≠ .getFirmware) : phaseAfterError (some i) = .commit := by
  simp [phaseAfterError_eq, hi]

theorem sequencerStep_decode {s : State} (h : s.phase = .decode) : sequencerStep s = s.decodeRead := by
  unfold sequencerStep
  simp only [h]

/-- A response that DECODE finds malformed, once its session is closed. -/
theorem failExchange_inFlight (i : Instr) (e : ErrorKind) {s : State} (hs : s.session = false) :
    (s.inFlight i .decode none none none).failExchange e =
      s.loseRxBuf.inFlight i (phaseAfterError (some i)) none none (some (.err e)) := by
  simp [State.failExchange, State.inFlight, State.loseRxBuf, hs]

/-- An error of the exchange is committed: the record is cleared (R140). -/
theorem sequencerStep_commit_error (i : Instr) (e : ErrorKind) (s : State) :
    sequencerStep (s.inFlight i .commit none none (some (.err e))) =
      .next (afterSelect i (.error e) ((s.recordOf (.error e)).inFlight i .commit none none (some (.err e)))) :=
  congrArg Host.Outcome.next (commitSelect_eq i (.error e) _ rfl)

theorem sequencerStep_commit_found (i : Instr) (f : ResponseFrame) (r : SelectResult) (s : State) :
    sequencerStep (s.inFlight i .commit (some f) (some r) none) =
      .next (afterSelect i (.ok r) ((s.recordOf (.ok r)).inFlight i .commit (some f) (some r) none)) := by
  refine congrArg Host.Outcome.next ((commitSelect_eq i (.ok r) _ rfl).trans ?_)
  cases r <;> rfl

/-- DECODE of what a select read: an error for COMMIT, or the fields found. -/
theorem sequencerStep_decode_select {i : Instr} (hi : i ≠ .getFirmware) {s : State} {raw : List Byte}
    (hraw : s.rxBytes = raw) (hs : s.session = false) :
    (∃ e, selectVerdict raw = .error e ∧ sequencerStep (s.inFlight i .decode none none none) =
      .next (s.loseRxBuf.inFlight i .commit none none (some (.err e)))) ∨
    (∃ f r, selectVerdict raw = .ok r ∧ sequencerStep (s.inFlight i .decode none none none) =
      .next (s.inFlight i .commit (some f) (some r) none)) := by
  have hmin := minLen_select hi (s := s.inFlight i .decode none none none) rfl
  have hrx : (s.inFlight i .decode none none none).rxBytes = raw := hraw
  have hne : (s.inFlight i .decode none none none).current ≠ some .getFirmware := by simpa [State.inFlight] using hi
  have failed (e : ErrorKind) : (s.inFlight i .decode none none none).failExchange e =
      s.loseRxBuf.inFlight i .commit none none (some (.err e)) := by
    rw [failExchange_inFlight i e hs, phaseAfterError_select hi]
  rw [sequencerStep_decode (s := s.inFlight i .decode none none none) rfl]
  cases hd : decodeResponse raw minLenSelect with
  | error d =>
    have hv : selectVerdict raw = .error .malformedFrame := by simp only [selectVerdict, parseFrame, hd]
    exact .inl ⟨_, hv, (decodeRead_malformed (by rw [hrx, hmin, hd])).trans (congrArg _ (failed _))⟩
  | ok f =>
    have hv : selectVerdict raw = selectReading f := by simp only [selectVerdict, parseFrame, hd]
    have h := decodeRead_select (s := s.inFlight i .decode none none none) hne (by rw [hrx, hmin, hd])
    cases hr : selectReading f with
    | error e =>
      rw [hr] at h
      exact .inl ⟨e, hv.trans hr, h.trans (congrArg Host.Outcome.next (failed e))⟩
    | ok r =>
      rw [hr] at h
      exact .inr ⟨f, r, hv.trans hr, h⟩

/-- DECODE and COMMIT of what a select read. -/
theorem runPhases_decode_select {i : Instr} (hi : i ≠ .getFirmware) {s : State} {raw : List Byte}
    (hraw : s.rxBytes = raw) (hs : s.session = false) :
    ∃ frame found outcome, runPhases 2 (s.inFlight i .decode none none none) =
      .next (afterSelect i (selectVerdict raw)
        (((s.afterVerdict (selectVerdict raw)).recordOf (selectVerdict raw)).inFlight i .commit frame found
          outcome)) := by
  rcases sequencerStep_decode_select hi hraw hs with ⟨e, hv, h⟩ | ⟨f, r, hv, h⟩ <;> rw [hv]
  · exact ⟨_, _, _, runPhases_snoc (runPhases_succ h 0) (sequencerStep_commit_error ..)⟩
  · exact ⟨_, _, _, runPhases_snoc (runPhases_succ h 0) (sequencerStep_commit_found ..)⟩

/-- R34: whatever operation runs it, a select reaches the point where its result decides what comes next. -/
theorem runPhases_select {i : Instr} (hi : i ≠ .getFirmware) (s : State) :
    ∃ n ≤ 6, ∃ frame found outcome, runPhases n (s.inFlight i .encode none none none) =
      .next (afterSelect i (selectTag s).1 ((selectTag s).2.inFlight i .commit frame found outcome)) := by
  have hcmd := commandCode_select hi (s := s.inFlight i .encode none none none) rfl
  have hphase := phaseAfterError_select hi
  rcases selectTag_cases s with ⟨hw, e⟩ | ⟨hw, hr, e⟩ | ⟨raw, hw, hr, fits, e⟩ <;> rw [e]
  · have h := runPhases_exchange_writeFailed hcmd hw
    rw [hphase] at h
    exact ⟨3, by decide, _, _, _, runPhases_snoc h (sequencerStep_commit_error ..)⟩
  · have h := runPhases_exchange_readFailed hcmd hw hr
    rw [hphase] at h
    exact ⟨5, by decide, _, _, _, runPhases_snoc h (sequencerStep_commit_error ..)⟩
  · have h := runPhases_exchange_read hcmd hw hr
    obtain ⟨frame, found, outcome, hd⟩ := runPhases_decode_select hi
      (s := (s.afterRead s.cfg.cmdSelectMifare raw).closeSession) (rxBytes_afterRead s _ raw fits) rfl
    exact ⟨6, by decide, frame, found, outcome, (runPhases_add h 2).trans hd⟩

/-! ### The firmware read -/

/-- The identifier by index arithmetic (R141) and by the field split (R88). -/
theorem slice_eq_payload_tail {raw : List Byte} {m : Nat} {f : ResponseFrame} (h : decodeResponse raw m = .ok f) :
    slice raw 3 (f.length.toNat - 2) = f.payload.tail := by
  obtain ⟨rest, hraw, _, hlow, _, hp⟩ := decodeResponse_cases h
  obtain ⟨k, hk⟩ : ∃ k, f.length.toNat = k + 2 := ⟨f.length.toNat - 2, by omega⟩
  rw [hp, hraw, hk]
  cases rest <;> simp [slice]

/-- VALIDATE and DONE of an identifier. -/
theorem runPhases_judge (f : ResponseFrame) (id : List Byte) (s : State) :
    runPhases 2 { s with current := some .getFirmware, phase := .validate, frame := some f, fwid := some id,
                         found := none, outcome := none } =
      .next ((s.afterVerdict (firmwareOutcome id)).deliver (resultOf (firmwareOutcome id))) := by
  refine runPhases_snoc (n := 1) rfl ?_
  unfold State.judge
  cases firmwareOutcome id <;> rfl

/-- What follows DECODE of what GET_FIRMWARE read. -/
theorem runPhases_decode_firmware {s : State} {raw : List Byte} (hraw : s.rxBytes = raw) (hs : s.session = false) :
    ∃ n ≤ 3, runPhases n (s.inFlight .getFirmware .decode none none none) =
      .next ((s.afterVerdict (firmwareVerdict raw)).deliver (resultOf (firmwareVerdict raw))) := by
  have hrx : (s.inFlight .getFirmware .decode none none none).rxBytes = raw := hraw
  cases hd : decodeResponse raw minLenFirmware with
  | error d =>
    have hv : firmwareVerdict raw = .error .malformedFrame := by simp only [firmwareVerdict, parseFrame, hd]
    have h := decodeRead_malformed (s := s.inFlight .getFirmware .decode none none none) (by rw [hrx]; exact hd)
    rw [failExchange_inFlight _ _ hs] at h
    rw [hv]
    exact ⟨2, by decide, runPhases_snoc (runPhases_succ ((sequencerStep_decode rfl).trans h) 0) rfl⟩
  | ok f =>
    have hv : firmwareVerdict raw = firmwareOutcome f.payload.tail := by
      simp only [firmwareVerdict, parseFrame, hd, slice_eq_payload_tail hd]
    have h := decodeRead_firmware (s := s.inFlight .getFirmware .decode none none none) rfl (by rw [hrx]; exact hd)
    rw [hv]
    exact ⟨3, by decide, (runPhases_succ ((sequencerStep_decode rfl).trans h) 2).trans (runPhases_judge f _ s)⟩

/-- GET_FIRMWARE, phase by phase. -/
theorem runPhases_getFirmware (s : State) :
    ∃ n ≤ 7, runPhases n (s.inFlight .getFirmware .encode none none none) =
      .next ((readFirmware s).2.deliver (resultOf (readFirmware s).1)) := by
  have hcmd : (s.inFlight .getFirmware .encode none none none).commandCode = s.cfg.cmdGetFirmware := rfl
  rcases readFirmware_cases s with ⟨hw, e⟩ | ⟨hw, hr, e⟩ | ⟨raw, hw, hr, fits, e⟩ <;> rw [e]
  · exact ⟨3, by decide, runPhases_snoc (runPhases_exchange_writeFailed hcmd hw) rfl⟩
  · exact ⟨5, by decide, runPhases_snoc (runPhases_exchange_readFailed hcmd hw hr) rfl⟩
  · have h := runPhases_exchange_read hcmd hw hr
    obtain ⟨n, hn, hd⟩ := runPhases_decode_firmware (s := (s.afterRead s.cfg.cmdGetFirmware raw).closeSession)
      (rxBytes_afterRead s _ raw fits) rfl
    exact ⟨4 + n, by omega, (runPhases_add h n).trans hd⟩

/-! ### The waits -/

/-- One of the two waits: the operation, the presence it waits for and its poll interval (R181, R182). -/
def IsWait (me : Instr) (wanted : Bool) (interval : Nat) : Prop :=
  (me = .waitUntilPresent ∧ wanted = true ∧ interval = tPollPresent) ∨
    (me = .waitUntilAbsent ∧ wanted = false ∧ interval = tPollAbsent)

/-- What one poll of a wait makes of its answer. -/
def waitEnd (me : Instr) (wanted : Bool) (interval : Nat) (r : Except ErrorKind Bool) (s : State) : State :=
  match r with
  | .error e => s.raiseError e
  | .ok present => if present = wanted then s.deliver (.ok .done) else s.keepWaiting me interval

theorem waitIteration_eq (me : Instr) (wanted : Bool) (interval : Nat) (s : State) :
    waitIteration me wanted interval s =
      if s.cancelAnswer then s.cancelSample.raiseError .cancelled
      else waitEnd me wanted interval (pollPresence s.cancelSample).1 (pollPresence s.cancelSample).2 := by
  unfold waitIteration waitEnd
  rcases pollPresence s.cancelSample with ⟨e | present, u⟩ <;> rfl

theorem sequencerStep_pollAgain {me : Instr} {wanted : Bool} {interval : Nat} (hm : IsWait me wanted interval)
    {s : State} (hc : s.current = some me) :
    sequencerStep s.pollAgain = .next { s.pollAgain.delay interval with phase := .poll } := by
  rcases hm with ⟨rfl, _, rfl⟩ | ⟨rfl, _, rfl⟩
  · exact sequencerStep_pollWait_present rfl hc
  · exact sequencerStep_pollWait_absent rfl hc

/-- The move after a poll's end hands over the result or lets the poll interval pass. -/
theorem sequencerStep_afterPoll {me : Instr} {wanted : Bool} {interval : Nat} (hm : IsWait me wanted interval)
    {s : State} (q : s.Quiet) (p : Phase) (frame : Option ResponseFrame) (found : Option SelectResult)
    (outcome : Option Result) (r : Except ErrorKind Bool) :
    sequencerStep ((s.inFlight me p frame found outcome).afterPoll wanted r) =
      .next (waitEnd me wanted interval r s) := by
  cases r with
  | error e => exact (sequencerStep_endWith _ _).trans (congrArg _ (q.deliver_resultOf (.error e)))
  | ok present =>
    unfold State.afterPoll waitEnd
    dsimp only
    split
    · exact sequencerStep_endWith _ _
    · refine (sequencerStep_pollAgain hm (s := s.inFlight me p frame found outcome) rfl).trans (congrArg _ ?_)
      obtain ⟨_, _, _, ho, hf, _, hx⟩ := q
      simp [State.pollAgain, State.inFlight, State.delay, State.emit, State.keepWaiting, ho, hf, hx]

/-- POLL of a wait. -/
theorem sequencerStep_poll {me : Instr} {wanted : Bool} {interval : Nat} (hm : IsWait me wanted interval) {s : State}
    (hp : s.phase = .poll) (hc : s.current = some me) : sequencerStep s = .next (s.pollOnce wanted) := by
  unfold sequencerStep
  rcases hm with ⟨rfl, rfl, _⟩ | ⟨rfl, rfl, _⟩ <;> simp only [hp, hc]

theorem afterSelect_wait {me : Instr} {wanted : Bool} {interval : Nat} (hm : IsWait me wanted interval)
    (r : Except ErrorKind SelectResult) (s : State) : afterSelect me r s = s.afterPoll wanted (presenceOf r) := by
  rcases hm with ⟨rfl, rfl, _⟩ | ⟨rfl, rfl, _⟩ <;> rfl

theorem IsWait.ne_getFirmware {me : Instr} {wanted : Bool} {interval : Nat} (hm : IsWait me wanted interval) :
    me ≠ .getFirmware := by
  rcases hm with ⟨rfl, _⟩ | ⟨rfl, _⟩ <;> nofun

theorem pollOnce_of_cancel {s : State} (h : s.cancelAnswer = true) (wanted : Bool) :
    s.pollOnce wanted = s.cancelSample.endWith (.err .cancelled) := if_pos h

theorem pollOnce_pinSensed {s : State} (h : s.cancelAnswer = false) (hm : s.cfg.mode = .pinSensed) (wanted : Bool) :
    s.pollOnce wanted = s.cancelSample.pinRead.afterPoll wanted (.ok (presentAt s.levelAnswer)) := by
  simp [State.pollOnce, h, hm]

theorem pollOnce_protocolPolled {s : State} (h : s.cancelAnswer = false) (hm : s.cfg.mode = .protocolPolled)
    (wanted : Bool) : s.pollOnce wanted = { s.cancelSample with phase := .encode } := by
  simp [State.pollOnce, h, hm]

theorem pollPresence_protocolPolled {s : State} (h : s.cfg.mode = .protocolPolled) :
    pollPresence s = (presenceOf (selectTag s).1, (selectTag s).2) := by
  simp only [pollPresence, h]

/-- One iteration of a wait, phase by phase. -/
theorem runPhases_wait {me : Instr} {wanted : Bool} {interval : Nat} (hm : IsWait me wanted interval) {s : State}
    (q : s.Quiet) :
    ∃ n ≤ 9, runPhases n (s.inFlight me .poll none none none) = .next (waitIteration me wanted interval s) := by
  have qc : s.cancelSample.Quiet := q.congr rfl rfl rfl rfl rfl rfl rfl
  have hpoll := runPhases_succ (sequencerStep_poll hm (s := s.inFlight me .poll none none none) rfl rfl) 0
  rw [waitIteration_eq]
  cases hcancel : s.cancelAnswer with
  | true =>
    rw [pollOnce_of_cancel (s := s.inFlight me .poll none none none) hcancel] at hpoll
    exact ⟨2, by decide, (runPhases_snoc hpoll (sequencerStep_endWith _ _)).trans
      (congrArg _ (qc.deliver_resultOf (.error .cancelled)))⟩
  | false =>
    cases hmode : s.cfg.mode with
    | pinSensed =>
      rw [pollOnce_pinSensed (s := s.inFlight me .poll none none none) hcancel hmode] at hpoll
      have hq : s.cancelSample.pinRead.Quiet := qc.congr rfl rfl rfl rfl rfl rfl rfl
      rw [pollPresence_pinSensed (s := s.cancelSample) hmode]
      exact ⟨2, by decide, runPhases_snoc hpoll (sequencerStep_afterPoll hm hq .poll none none none _)⟩
    | protocolPolled =>
      rw [pollOnce_protocolPolled (s := s.inFlight me .poll none none none) hcancel hmode] at hpoll
      rw [pollPresence_protocolPolled (s := s.cancelSample) hmode]
      obtain ⟨n, hn, frame, found, outcome, h⟩ := runPhases_select hm.ne_getFirmware s.cancelSample
      rw [afterSelect_wait hm] at h
      exact ⟨1 + n + 1, by omega, runPhases_snoc ((runPhases_add hpoll n).trans h)
        (sequencerStep_afterPoll hm qc.selectTag ..)⟩

/-! ### IS_PRESENT and SELECT_TAG -/

theorem runPhases_selectTag {s : State} (q : s.Quiet) :
    ∃ n ≤ 9, runPhases n (s.inFlight .selectTag .encode none none none) = .next (hostEffect .selectTag s) := by
  obtain ⟨n, hn, frame, found, outcome, h⟩ := runPhases_select (i := .selectTag) nofun s
  exact ⟨n + 1, by omega, (runPhases_snoc h (sequencerStep_endWith _ _)).trans
    (congrArg _ (q.selectTag.deliver_resultOf _))⟩

theorem runPhases_isPresent {s : State} (q : s.Quiet) :
    ∃ n ≤ 9, runPhases n (s.inFlight .isPresent (firstPhase s.cfg.mode .isPresent) none none none) =
      .next (hostEffect .isPresent s) := by
  cases hmode : s.cfg.mode with
  | pinSensed =>
    simp only [hostEffect, pollPresence_pinSensed hmode]
    exact ⟨2, by decide, rfl⟩
  | protocolPolled =>
    simp only [hostEffect, pollPresence_protocolPolled hmode]
    obtain ⟨n, hn, frame, found, outcome, h⟩ := runPhases_select (i := .isPresent) nofun s
    exact ⟨n + 1, by omega, (runPhases_snoc h (sequencerStep_endWith _ _)).trans
      (congrArg _ (q.selectTag.deliver_resultOf _))⟩

/-- Settles O18: each of the five operations is followed through its phases, a wait through one iteration. -/
theorem operationsAreTheirPhases : Obligations.OperationsAreTheirPhases := by
  intro i s q hi
  rw [q.begin]
  rcases hi with rfl | rfl | rfl | rfl | rfl <;> rw [exec_of_idle rfl q.idle]
  · exact runPhases_selectTag q
  · obtain ⟨n, hn, h⟩ := runPhases_getFirmware s
    exact ⟨n, by omega, h.trans (congrArg _ (q.readFirmware.deliver_resultOf _))⟩
  · exact runPhases_isPresent q
  · exact runPhases_wait (.inl ⟨rfl, rfl, rfl⟩) q
  · exact runPhases_wait (.inr ⟨rfl, rfl, rfl⟩) q

end Sys2Proof.Machine
end

section
/-! PROOF. Family 20_memory.md: R63 along whole runs, and the exchange of R71. The induction over a run is packaged
once, as a lemma about the invariant; R63 is then one of its clauses. -/

namespace Sys2Proof.Machine

/-! ### R63 -/

/-- Every state of a run from a state of the invariant meets the invariant again. -/
theorem State.Inv.runSteps {n : Nat} {s t : State} (h : s.Inv) (ht : runSteps n s = .next t) : t.Inv := by
  induction n generalizing s with
  | zero => cases ht; exact h
  | succ n ih =>
    simp only [Sys2Proof.Machine.runSteps] at ht
    split at ht
    · next u hu => exact ih (stepKeepsTheInvariant s u h hu) ht
    · cases ht
    · cases ht

/-- Settles O16: R63 is a clause of the invariant, and a run keeps the invariant. -/
theorem readsFollowWriteAndTurnaround : Obligations.ReadsFollowWriteAndTurnaround :=
  fun _ _ _ h ht => (h.runSteps ht).paced

/-! ### R71 -/

theorem exchange_of_writeFailed {s : State} (hs : s.session = false) (hw : s.writeAnswer = .ioError) (cmd : Byte)
    (minLen : Nat) : exchange cmd minLen s = (.error .ioError, (s.afterWrite cmd).loseRxBuf) := by
  have hc : (s.afterWrite cmd).closeSession = s.afterWrite cmd := closeSession_of_closed hs
  rcases exchange_cases s cmd minLen with ⟨-, he⟩ | ⟨hok, -, -⟩ | ⟨_, hok, -, -, -⟩
  · rw [he, hc]
  · simp [hw] at hok
  · simp [hw] at hok

theorem exchange_of_readFailed {s : State} (hs : s.session = false) (hw : s.writeAnswer = .ok)
    (hr : s.readAnswer = .ioError) (cmd : Byte) (minLen : Nat) :
    exchange cmd minLen s = (.error .ioError, (s.afterAsking cmd).loseRxBuf) := by
  have hc : (s.afterAsking cmd).closeSession = s.afterAsking cmd := closeSession_of_closed hs
  rcases exchange_cases s cmd minLen with ⟨hio, -⟩ | ⟨-, -, he⟩ | ⟨_, -, hraw, -, -⟩
  · simp [hw] at hio
  · rw [he, hc]
  · simp [hr] at hraw

theorem exchange_of_read {s : State} {raw : List Byte} (hs : s.session = false) (hw : s.writeAnswer = .ok)
    (hr : s.readAnswer = .bytes raw) (cmd : Byte) (minLen : Nat) :
    exchange cmd minLen s =
      (parseFrame raw minLen, (s.afterRead cmd raw).afterVerdict (parseFrame raw minLen)) := by
  have hc : (s.afterRead cmd raw).closeSession = s.afterRead cmd raw := closeSession_of_closed hs
  rcases exchange_cases s cmd minLen with ⟨hio, -⟩ | ⟨-, hio, -⟩ | ⟨raw', -, hr', -, he⟩
  · simp [hw] at hio
  · simp [hr] at hio
  · cases hr.symm.trans hr'
    rw [he, hc]

/-- Settles O30: the three ways an exchange goes from a block without an open session, by what the transport answers
to its write and to its read. -/
theorem exchangeIsWriteDelayRead : Obligations.ExchangeIsWriteDelayRead := by
  intro s cmd minLen hs
  refine ⟨fun hw => exchange_of_writeFailed hs hw cmd minLen,
    fun hw hr => exchange_of_readFailed hs hw hr cmd minLen, fun raw hw hr => ?_⟩
  have fits : raw.length ≤ 15 := readAnswer_fits hr
  refine ⟨fits, rxBytes_afterRead s cmd raw fits, ?_⟩
  rw [exchange_of_read hs hw hr, parseFrame]
  cases decodeResponse raw minLen <;> rfl

end Sys2Proof.Machine
end

section
/-! PROOF. Family 30_encoding.md: the encoder and the decoder agree, on operation words (R97) and on frames (R80 to
R88). -/

namespace Sys2Proof

/-! ### Operation words -/

/-- No two operations share a word: what a word encodes is what it is decoded to. -/
theorem decodeOp_of_encode {cfg : Config} {i : Instr} {w : BitVec 12} (h : encode cfg i = .word w) :
    decodeOp w = i := by
  cases i <;> cases h <;> simp only [decodeOp, opField_opWord, argField_opWord] <;> rfl

/-- A word put together from its fields, decoded and encoded again. -/
theorem encode_decodeOp_opWord (cfg : Config) (op : BitVec 4) (arg : Byte) :
    encode cfg (decodeOp (opWord op arg)) =
      .word (if op = 0x0 ∨ op = 0x1 ∨ op = 0x9 then opWord op arg else opWord op 0x00) := by
  obtain ⟨⟨n, hn⟩⟩ := op
  unfold decodeOp
  rw [opField_opWord, argField_opWord]
  interval_cases n <;> rfl

/-- Settles O2: a word is its two fields, and each of the sixteen codes keeps or drops ARG. -/
theorem operationWordsAreEncodings : Obligations.OperationWordsAreEncodings := by
  intro cfg w
  have h := encode_decodeOp_opWord cfg (opField w) (argField w)
  rwa [opWord_fields] at h

/-! ### Frames -/

theorem decodeCommand_frame (cmd : Byte) : decodeCommand [cmdLen, cmd] = .ok cmd := rfl

/-- R84: a frame of at most 254 payload bytes, the most that LEN can count, is decoded to its fields. -/
theorem decodeResponse_frameBytes (cmd : Byte) (payload : List Byte) (h1 : 1 ≤ payload.length)
    (h2 : payload.length ≤ 254) :
    decodeResponse (frameBytes cmd payload) 0 = .ok ⟨BitVec.ofNat 8 (payload.length + 1), cmd, payload⟩ := by
  have hlen : (BitVec.ofNat 8 (payload.length + 1)).toNat = payload.length + 1 := by
    rw [BitVec.toNat_ofNat]
    omega
  unfold frameBytes
  rw [decodeResponse_of_shape _ _ _ _ (Nat.zero_le _) (by omega) (by omega), hlen, Nat.add_sub_cancel,
    List.take_length]

/-- R86: the fields of a select response are read back from its payload, a UID standing only before a TYPE byte. -/
theorem selectFields_selectPayload {uid : List Byte} {type : Option Byte} (h : uidFits uid type = true)
    (len cmd status : Byte) :
    selectFields ⟨len, cmd, selectPayload status uid type⟩ = .ok (.respSelect cmd status uid type) := by
  cases type with
  | none =>
    obtain ⟨-, rfl⟩ : uid.length ≤ uidMax ∧ uid = [] := by simpa [uidFits] using h
    rfl
  | some t => simp [selectFields, selectPayload]

theorem selectPayload_length_le {uid : List Byte} {type : Option Byte} (h : uidFits uid type = true) (status : Byte) :
    (selectPayload status uid type).length ≤ 13 := by
  have huid : uid.length ≤ 11 := by
    simp only [uidFits, Bool.and_eq_true, decide_eq_true_eq] at h
    exact h.1
  cases type <;> simp [selectPayload] <;> omega

/-- Settles O1: a word by its two fields, a command frame by its two bytes, a response by its length and its layout. -/
theorem encodedInstructionsDecodeToThemselves : Obligations.EncodedInstructionsDecodeToThemselves := by
  intro cfg i hwf
  cases i with
  | cmdFrame cmd => rfl
  | cmdFrameSelectMifare => simp only [Instr.port, encode, decode, decodeCommand_frame, if_true]
  | cmdFrameGetFirmware => simp only [Instr.port, encode, decode, decodeCommand_frame, if_true]
  | respFrame cmd payload =>
    obtain ⟨h1, h2⟩ : 1 ≤ payload.length ∧ payload.length ≤ 13 := by
      simpa [Instr.wellFormed, payloadFits] using hwf
    simp only [Instr.port, encode, decode, decodeResponse_frameBytes cmd payload h1 (by omega)]
    rfl
  | respSelect cmd status uid type =>
    have hlen := selectPayload_length_le hwf status
    simp only [Instr.port, encode, decode,
      decodeResponse_frameBytes cmd (selectPayload status uid type) (Nat.succ_pos _) (by omega)]
    exact selectFields_selectPayload hwf _ cmd status
  | respFirmware cmd reserved fwid =>
    have hlen : fwid.length ≤ 12 := by simpa [Instr.wellFormed, fwidFits] using hwf
    simp only [Instr.port, encode, decode,
      decodeResponse_frameBytes cmd (reserved :: fwid) (Nat.succ_pos _) (by simp only [List.length_cons]; omega)]
    rfl
  | _ => exact congrArg Except.ok (decodeOp_of_encode (cfg := cfg) rfl)

/-- Settles O3: each of the words and frames is decoded by evaluation. -/
theorem writtenOutBitsDecode : Obligations.WrittenOutBitsDecode :=
  ⟨by decide, by decide, by decide, by decide, by decide, fun _ => rfl, fun _ => rfl, fun _ => rfl⟩

/-- Settles O4: the shape a response is decoded from, read as the bytes at its indices. -/
theorem wellFormedResponsesAreTheCheckedOnes : Obligations.WellFormedResponsesAreTheCheckedOnes := by
  intro raw minLen f
  constructor
  · intro h
    obtain ⟨rest, hraw, hmin, hlow, hin, hpay⟩ := decodeResponse_cases h
    refine ⟨hmin, by omega, hlow, hin, by simp [hraw], by simp [hraw], ?_⟩
    rw [hpay, hraw]
    rfl
  · rintro ⟨hmin, -, hlow, hin, hlen, hcmd, hpay⟩
    obtain ⟨len, cmd, payload⟩ := f
    dsimp only at hlow hin hlen hcmd hpay
    match raw with
    | [] => simp at hlen
    | [_] => simp at hcmd
    | a :: b :: rest =>
      obtain rfl : a = len := by simpa using hlen
      obtain rfl : b = cmd := by simpa using hcmd
      rw [decodeResponse_of_shape _ _ _ _ hmin hlow hin, hpay]
      rfl

end Sys2Proof
end

section
/-! PROOF. Family 30_encoding.md: the step, the unassigned codes, the result codes (R98), and the frames of the wire in
the phase they belong to (R34). DECODE and COMMIT of a select response are taken together: whatever operation runs the
select, COMMIT writes the record from what the fields say and then does what that operation does. -/

namespace Sys2Proof.Machine

/-! ### The step, the unassigned codes, the result codes -/

theorem step_of_nothing_presented {s : State} (h : s.phase = .idle) (hp : s.program = []) : step s = .next s := by
  simp only [step, h, hp]

/-- An operation presented in busy time is taken before the next move. -/
theorem step_of_overlapping {s : State} {r : Request} {rest : List Request} (h : s.phase ≠ .idle)
    (ho : s.overlapping = r :: rest) : step s = exec (decodeOp r.word) { s with overlapping := rest } := by
  unfold step
  split
  · contradiction
  · rw [ho]

/-- Settles O10: one case for each of what may be presented, idle and busy. -/
theorem stepRunsWhatIsPresented : Obligations.StepRunsWhatIsPresented := fun _ =>
  ⟨fun _ _ => step_of_idle, step_of_nothing_presented, fun _ _ => step_of_overlapping, step_of_busy⟩

/-- Settles O28: the meaning of both codes is the refusal itself. -/
theorem unassignedCodesAreRefused : Obligations.UnassignedCodesAreRefused := fun _ => ⟨rfl, rfl⟩

/-- Settles O29: by the kind of error, of payload and of verdict. -/
theorem resultKindsHaveTheirCodes : Obligations.ResultKindsHaveTheirCodes := by
  refine ⟨fun e => ?_, fun v => ?_, fun v => ?_, fun _ _ => rfl⟩
  · cases e <;> rfl
  · cases v <;> rfl
  · cases v <;> rfl

/-! ### Command frames -/

/-- Settles O49: whatever TXBUF held, the two bytes of the frame replace it. -/
theorem commandFrameEntersTxbuf : Obligations.CommandFrameEntersTxbuf := by
  intro s cmd
  simp only [exec, execCmdFrame, State.loadCommand, loadRegs_commandFrame]

theorem failExchange_eq (e : ErrorKind) (s : State) :
    s.failExchange e =
      { s.loseRxBuf with session := false, outcome := some (.err e),
                         phase := if s.current = some .getFirmware then .done else .commit } := by
  simp only [State.failExchange, phaseAfterError_eq]

/-- Settles O50: both frames are sent by one function of the command code. -/
theorem theTwoCommandFramesAreSent : Obligations.TheTwoCommandFramesAreSent := by
  intro s
  have failed (hw : s.writeAnswer = .ioError) (cmd : Byte) :=
    (sendCommand_of_ioError hw cmd).trans (failExchange_eq .ioError (s.afterWrite cmd))
  exact ⟨fun hw => ⟨congrArg _ (sendCommand_of_ok hw _), congrArg _ (sendCommand_of_ok hw _)⟩,
    fun hw => ⟨congrArg _ (failed hw _), congrArg _ (failed hw _)⟩⟩

/-! ### Responses -/

/-- Settles O51: the view and the phase are what the meaning writes. -/
theorem responseFrameBecomesTheView : Obligations.ResponseFrameBecomesTheView := fun _ _ _ => rfl

/-! ### A select response in DECODE and COMMIT -/

/-- R87: STATUS 0x00 with a TYPE byte. -/
theorem selectOutcome_of_type {status : Byte} (h : status = 0x00) (uid : List Byte) (cardType : Byte) :
    selectOutcome status uid (some cardType) = .ok (.selected cardType uid) :=
  if_neg (not_not_intro h)

/-- R87 (D7): STATUS 0x00 without a TYPE byte. -/
theorem selectOutcome_of_no_type {status : Byte} (h : status = 0x00) (uid : List Byte) :
    selectOutcome status uid none = .error .malformedFrame :=
  if_neg (not_not_intro h)

theorem sequencerStep_of_found {s : State} {r : SelectResult} (hp : s.phase = .commit) (hf : s.found = some r) :
    sequencerStep s = .next (s.commitSelect (.ok r)) := by
  simp only [sequencerStep, hp, hf]

theorem sequencerStep_of_select_error {s : State} {e : ErrorKind} (hp : s.phase = .commit) (hf : s.found = none)
    (ho : s.outcome = some (.err e)) : sequencerStep s = .next (s.commitSelect (.error e)) := by
  simp only [sequencerStep, hp, hf, ho]

/-- The state DECODE leaves once it has taken the fields of a select response: of this payload, when they say `r`. -/
def State.fieldsTaken (cmd : Byte) (payload : List Byte) (r : Except ErrorKind SelectResult) (s : State) : State :=
  match r with
  | .error e => State.failExchange e { s with frame := none, found := none }
  | .ok found =>
    { s with frame := some ⟨BitVec.ofNat 8 (payload.length + 1), cmd, payload⟩, found := some found, phase := .commit }

theorem exec_respSelect (cmd status : Byte) (uid : List Byte) (type : Option Byte) (s : State) :
    exec (.respSelect cmd status uid type) s =
      .next (s.fieldsTaken cmd (selectPayload status uid type) (selectOutcome status uid type)) := by
  simp only [exec, execRespSelect, State.fieldsTaken]
  cases selectOutcome status uid type <;> rfl

section FieldsTaken

variable (cmd : Byte) (payload : List Byte) (r : Except ErrorKind SelectResult) {s : State}

/-- DECODE of a select response causes no event, hands over no result and writes no record. -/
theorem fieldsTaken_frame :
    s.SameRecord (s.fieldsTaken cmd payload r) ∧ (s.fieldsTaken cmd payload r).history = s.history ∧
      (s.fieldsTaken cmd payload r).results = s.results ∧ (s.fieldsTaken cmd payload r).current = s.current ∧
      (s.fieldsTaken cmd payload r).cfg = s.cfg := by
  cases r <;> exact ⟨⟨rfl, rfl, rfl⟩, rfl, rfl, rfl, rfl⟩

variable {i : Instr} (hi : i ≠ .getFirmware) (hc : s.current = some i)
include hi hc

/-- DECODE of a malformed select response: the view ends, and the error waits for COMMIT. -/
theorem fieldsTaken_error (e : ErrorKind) :
    s.fieldsTaken cmd payload (.error e) =
      { s.loseRxBuf with frame := none, found := none, session := false, outcome := some (.err e),
                         phase := .commit } := by
  have hne : s.current ≠ some .getFirmware := by simpa [hc] using hi
  refine (failExchange_eq e _).trans ?_
  rw [if_neg hne]
  rfl

/-- COMMIT is the phase after DECODE of a select response, malformed or not. -/
theorem fieldsTaken_phase : (s.fieldsTaken cmd payload r).phase = .commit := by
  cases r with
  | error e => rw [fieldsTaken_error cmd payload hi hc]
  | ok found => rfl

/-- COMMIT after DECODE of a select response: the record is written from what the fields say (R87), and the operation
in progress goes on from there. -/
theorem sequencerStep_fieldsTaken :
    sequencerStep (s.fieldsTaken cmd payload r) =
      .next (afterSelect i r ((s.fieldsTaken cmd payload r).recordOf r)) := by
  have hp := fieldsTaken_phase cmd payload r hi hc
  obtain ⟨-, -, -, hcur, -⟩ := fieldsTaken_frame cmd payload r (s := s)
  rw [← commitSelect_eq i _ _ (hcur.trans hc)]
  cases r with
  | error e => exact sequencerStep_of_select_error hp rfl rfl
  | ok found => exact sequencerStep_of_found hp rfl

end FieldsTaken

/-- Settles O52: the two moves of `sequencerStep_fieldsTaken`, written out for each of the three outcomes. -/
theorem selectResponseIsCommitted : Obligations.SelectResponseIsCommitted := by
  intro s cmd status uid type hc
  have hcommit := sequencerStep_fieldsTaken cmd (selectPayload status uid type) (selectOutcome status uid type)
    (by simp) hc
  refine ⟨_, _, rfl, exec_respSelect cmd status uid type s, fun hs => ?_, fun hs ht => ?_, fun cardType hs ht => ?_⟩
  · rw [hcommit, selectOutcome_of_ne hs]
    exact ⟨rfl, rfl⟩
  · subst ht
    rw [hcommit, selectOutcome_of_no_type hs]
    exact ⟨fieldsTaken_error cmd _ (by simp) hc _, rfl⟩
  · subst ht
    rw [hcommit, selectOutcome_of_type hs]
    exact ⟨rfl, rfl⟩

/-- What the operation in progress does after COMMIT causes no event, hands over no result and writes no record. -/
theorem afterSelect_frame (i : Instr) (r : Except ErrorKind SelectResult) (s : State) :
    (afterSelect i r s).history = s.history ∧ (afterSelect i r s).results = s.results ∧
      (afterSelect i r s).current = s.current ∧ (afterSelect i r s).cfg = s.cfg ∧
      s.SameRecord (afterSelect i r s) := by
  rcases afterSelect_cases i r s with ⟨v, e⟩ | ⟨-, e⟩ <;> rw [e] <;> exact ⟨rfl, rfl, rfl, rfl, rfl, rfl, rfl⟩

/-- Settles O53: the record is written as for a select, and each presence operation makes its own of the presence. -/
theorem selectResponseDecidesAPoll : Obligations.SelectResponseDecidesAPoll := by
  intro s cmd status uid type
  have hexec := exec_respSelect cmd status uid type s
  generalize hr : selectOutcome status uid type = r at hexec
  obtain ⟨hrec, hhist, hres, hcur, hcfg⟩ := fieldsTaken_frame cmd (selectPayload status uid type) r (s := s)
  refine ⟨_, hexec, hrec, hhist, hres, hcur, hcfg, fun hpoll => ?_⟩
  obtain ⟨i, hi, hc⟩ : ∃ i, i ≠ .getFirmware ∧ s.current = some i := by
    rcases hpoll with h | h | h <;> exact ⟨_, by simp, h⟩
  obtain ⟨uhist, ures, ucur, ucfg, usel, utype, uuid⟩ := afterSelect_frame i r
    ((s.fieldsTaken cmd (selectPayload status uid type) r).recordOf r)
  refine ⟨fieldsTaken_phase cmd _ r hi hc, _, sequencerStep_fieldsTaken cmd _ r hi hc, by simp [uhist, hhist],
    by simp [ures, hres], by simp [ucur, hcur], by simp [ucfg, hcfg], fun hs => ?_, fun hs htype => ?_,
    fun cardType hs htype => ?_⟩
  · obtain rfl := hr.symm.trans (selectOutcome_of_ne hs uid type)
    refine ⟨⟨usel, utype, uuid⟩, fun h => ?_, fun h => ?_, fun h => ?_⟩ <;> cases hc.symm.trans h <;>
      exact ⟨rfl, rfl⟩
  · subst htype
    obtain rfl := hr.symm.trans (selectOutcome_of_no_type hs uid)
    refine ⟨⟨usel, utype, uuid⟩, ?_⟩
    rcases hpoll with h | h | h <;> cases hc.symm.trans h <;> exact ⟨rfl, rfl⟩
  · subst htype
    obtain rfl := hr.symm.trans (selectOutcome_of_type hs uid cardType)
    refine ⟨⟨usel, utype, uuid⟩, fun h => ?_, fun h => ?_, fun h => ?_⟩ <;> cases hc.symm.trans h <;>
      exact ⟨rfl, rfl⟩

/-! ### The identifier -/

/-- R130: the verdict on an identifier, by its first byte. -/
theorem firmwareOutcome_cons (b : Byte) (rest : List Byte) :
    firmwareOutcome (b :: rest) = .ok (.firmware ((b :: rest).map BitVec.toNat)
      (if b = 0x53 then .recognizedOk else if b = 0xD3 then .clockSpeedCorruption else .unrecognizedDevice)) := by
  simp only [firmwareOutcome, verdictOf]
  split
  · rfl
  · split <;> rfl

/-- D25: an empty identifier. -/
theorem firmwareOutcome_nil : firmwareOutcome [] = .error .malformedFrame := rfl

theorem sequencerStep_validate {s : State} {id : List Byte} (hp : s.phase = .validate) (hf : s.fwid = some id) :
    sequencerStep s = .next (s.judge id) := by
  simp only [sequencerStep, hp, hf]

/-- Settles O54: DECODE writes the fields out, VALIDATE is the verdict on them. -/
theorem firmwareResponseIsValidated : Obligations.FirmwareResponseIsValidated := by
  intro s cmd reserved fwid
  refine ⟨_, rfl, rfl, fun b rest hid => ?_, fun hid => ?_⟩ <;> subst hid <;> rw [sequencerStep_validate rfl rfl]
  · simp only [State.judge, firmwareOutcome_cons]
    rfl
  · rfl

end Sys2Proof.Machine
end

section
/-! PROOF. Family 30_encoding.md: what SELECT_TAG and GET_FIRMWARE make of a read, and that bytes behind the declared
frame take part in nothing (R85). Two blocks that read the same up to such bytes are followed side by side through the
operations that read. -/

namespace Sys2Proof.Machine

/-! ### SELECT_TAG and GET_FIRMWARE on a block at rest, once the transport has answered -/

theorem parseFrame_of_decode {raw : List Byte} {minLen : Nat} {f : ResponseFrame}
    (h : decodeResponse raw minLen = .ok f) : parseFrame raw minLen = .ok f := by
  simp only [parseFrame, h]

theorem afterRead_quiet {s : State} (q : s.Quiet) (cmd : Byte) (raw : List Byte) : (s.afterRead cmd raw).Quiet :=
  q.congr rfl rfl rfl rfl rfl rfl rfl

theorem exec_selectTag_of_read {s : State} {raw : List Byte} (q : s.Quiet) (hw : s.writeAnswer = .ok)
    (hr : s.readAnswer = .bytes raw) :
    exec .selectTag s = .next ((((s.afterRead s.cfg.cmdSelectMifare raw).afterVerdict (selectVerdict raw)).recordOf
      (selectVerdict raw)).withResult (resultOf ((selectVerdict raw).map SelectResult.value))) := by
  have hq := afterRead_quiet q s.cfg.cmdSelectMifare raw
  rw [exec_of_idle rfl q.idle, hostEffect, selectTag_of_read hw hr, closeSession_of_closed hq.noSession,
    ((hq.afterVerdict _).recordOf _).conclude]

theorem selectTag_of_writeFailed {s : State} (hw : s.writeAnswer = .ioError) :
    selectTag s =
      (.error .ioError, (s.afterWrite s.cfg.cmdSelectMifare).closeSession.loseRxBuf.clearRecord) := by
  rcases selectTag_cases s with ⟨-, e⟩ | ⟨h, -⟩ | ⟨_, h, -⟩
  · exact e
  · simp [hw] at h
  · simp [hw] at h

theorem readFirmware_of_writeFailed {s : State} (hw : s.writeAnswer = .ioError) :
    readFirmware s = (.error .ioError, (s.afterWrite s.cfg.cmdGetFirmware).closeSession.loseRxBuf) := by
  rcases readFirmware_cases s with ⟨-, e⟩ | ⟨h, -⟩ | ⟨_, h, -⟩
  · exact e
  · simp [hw] at h
  · simp [hw] at h

theorem readFirmware_of_read {s : State} {raw : List Byte} (hw : s.writeAnswer = .ok)
    (hr : s.readAnswer = .bytes raw) :
    readFirmware s = (firmwareVerdict raw,
      (s.afterRead s.cfg.cmdGetFirmware raw).closeSession.afterVerdict (firmwareVerdict raw)) := by
  rcases readFirmware_cases s with ⟨h, -⟩ | ⟨-, h, -⟩ | ⟨raw', -, h, -, e⟩
  · simp [hw] at h
  · simp [hr] at h
  · cases hr.symm.trans h
    exact e

theorem exec_getFirmware_of_read {s : State} {raw : List Byte} (q : s.Quiet) (hw : s.writeAnswer = .ok)
    (hr : s.readAnswer = .bytes raw) :
    exec .getFirmware s = .next (((s.afterRead s.cfg.cmdGetFirmware raw).afterVerdict
      (firmwareVerdict raw)).withResult (resultOf (firmwareVerdict raw))) := by
  have hq := afterRead_quiet q s.cfg.cmdGetFirmware raw
  rw [exec_of_idle rfl q.idle, hostEffect, readFirmware_of_read hw hr, closeSession_of_closed hq.noSession,
    (hq.afterVerdict _).conclude]

/-! ### NoTag -/

/-- R86: STATUS, by its index in the read and by its place in the payload. -/
theorem getElem?_two_eq_payload_head? {raw : List Byte} {m : Nat} {f : ResponseFrame}
    (h : decodeResponse raw m = .ok f) : raw[2]? = f.payload.head? := by
  obtain ⟨rest, hraw, -, hlow, -, hp⟩ := decodeResponse_cases h
  obtain ⟨k, hk⟩ : ∃ k, f.length.toNat = k + 2 := ⟨f.length.toNat - 2, by omega⟩
  rw [hp, hraw, hk]
  cases rest <;> rfl

/-- R90: any STATUS but 0x00, whatever stands behind it. -/
theorem selectVerdict_noTag {raw : List Byte} {f : ResponseFrame} {status : Byte}
    (hd : decodeResponse raw minLenSelect = .ok f) (hs : raw[2]? = some status) (hne : status ≠ 0x00) :
    selectVerdict raw = .ok .noTag := by
  obtain ⟨b, rest, hp⟩ := decodeResponse_payload_cons hd
  obtain rfl : status = b := by simpa [getElem?_two_eq_payload_head? hd, hp] using hs.symm
  simp only [selectVerdict, parseFrame_of_decode hd, selectReading, hp, selectOutcome_of_ne hne]

/-- Settles O32: the verdict is NoTag, which clears the record. -/
theorem selectTagWithoutTagClears : Obligations.SelectTagWithoutTagClears := by
  intro s raw f status q hw hr hd hs hne
  rw [exec_selectTag_of_read q hw hr, selectVerdict_noTag hd hs hne]
  rfl

/-! ### The identifier -/

theorem firmwareVerdict_of_decode {raw : List Byte} {f : ResponseFrame}
    (hd : decodeResponse raw minLenFirmware = .ok f) :
    firmwareVerdict raw = firmwareOutcome (slice raw 3 (f.length.toNat - 2)) := by
  simp only [firmwareVerdict, parseFrame_of_decode hd]

/-- R88: the identifier has LEN - 2 bytes. -/
theorem slice_identifier_length {raw : List Byte} {m : Nat} {f : ResponseFrame} (hd : decodeResponse raw m = .ok f) :
    (slice raw 3 (f.length.toNat - 2)).length = f.length.toNat - 2 := by
  have hlen := (decodeResponse_payload_length hd).1
  rw [slice_eq_payload_tail hd, List.length_tail]
  omega

/-- Settles O34: the verdict on the identifier, which is empty exactly when LEN is 2. -/
theorem getFirmwareReturnsTheIdentifier : Obligations.GetFirmwareReturnsTheIdentifier := by
  intro s raw f q hw hr hd
  rw [exec_getFirmware_of_read q hw hr, firmwareVerdict_of_decode hd]
  refine ⟨fun b rest hid => ?_, fun hlen => ?_, fun _ => slice_identifier_length hd⟩
  · rw [hid, firmwareOutcome_cons]
    rfl
  · have hid : slice raw 3 (f.length.toNat - 2) = [] :=
      List.eq_nil_of_length_eq_zero (by rw [slice_identifier_length hd, hlen])
    rw [hid, firmwareOutcome_nil]
    rfl

/-! ### Reads that differ behind the declared frame -/

/-- Two reads of one size that agree on the indices 0 to LEN (R85). -/
structure SameFrame (raw raw' : List Byte) : Prop where
  fits : raw.length ≤ maxFrame
  length_eq : raw'.length = raw.length
  agree : ∀ len, raw[0]? = some len → raw'.take (len.toNat + 1) = raw.take (len.toNat + 1)

theorem SameFrame.symm {raw raw' : List Byte} (h : SameFrame raw raw') : SameFrame raw' raw where
  fits := h.length_eq.trans_le h.fits
  length_eq := h.length_eq.symm
  agree len hlen := by
    match raw, raw', h with
    | [], raw', h => simp [List.eq_nil_of_length_eq_zero h.length_eq] at hlen
    | a :: rest, [], h => simp at hlen
    | a :: rest, b :: rest', h =>
      have hab := h.agree a rfl
      obtain rfl : b = a := (List.cons.inj hab).1
      obtain rfl : b = len := by simpa using hlen
      exact hab.symm

/-- One read is a response when the other is, and with the same fields. -/
theorem SameFrame.parseFrame_eq {raw raw' : List Byte} (h : SameFrame raw raw') (minLen : Nat) :
    parseFrame raw' minLen = parseFrame raw minLen := by
  cases hd : decodeResponse raw minLen with
  | ok f =>
    rw [parseFrame_of_decode hd, parseFrame_of_decode (decodeResponse_of_agree h.length_eq h.agree hd).1]
  | error d =>
    cases hd' : decodeResponse raw' minLen with
    | ok f => simp [(decodeResponse_of_agree h.symm.length_eq h.symm.agree hd').1] at hd
    | error d' => simp only [parseFrame, hd, hd']

theorem SameFrame.selectVerdict_eq {raw raw' : List Byte} (h : SameFrame raw raw') :
    selectVerdict raw' = selectVerdict raw := by
  simp only [selectVerdict, h.parseFrame_eq]

theorem SameFrame.firmwareVerdict_eq {raw raw' : List Byte} (h : SameFrame raw raw') :
    firmwareVerdict raw' = firmwareVerdict raw := by
  cases hd : decodeResponse raw minLenFirmware with
  | ok f =>
    obtain ⟨hd', hslice⟩ := decodeResponse_of_agree h.length_eq h.agree hd
    have hlen := decodeResponse_payload_length hd
    rw [firmwareVerdict_of_decode hd, firmwareVerdict_of_decode hd', hslice _ _ (by omega)]
  | error d =>
    have hp : parseFrame raw minLenFirmware = .error .malformedFrame := by simp only [parseFrame, hd]
    simp only [firmwareVerdict, h.parseFrame_eq, hp]

/-! ### Two blocks side by side -/

/-- `t` is `s` but for what RXBUF holds and for the reads still to be answered. -/
def State.SameButReads (s t : State) : Prop := ∃ rxBuf reads, t = { s with rxBuf := rxBuf, reads := reads }

theorem State.SameButReads.recordOf {s t : State} (h : s.SameButReads t) (r : Except ErrorKind SelectResult) :
    (s.recordOf r).SameButReads (t.recordOf r) := by
  obtain ⟨b, a, rfl⟩ := h
  refine ⟨b, a, ?_⟩
  unfold State.recordOf
  split <;> rfl

theorem State.SameButReads.afterVerdict {α : Type} {s t : State} (h : s.SameButReads t) (r : Except ErrorKind α) :
    (s.afterVerdict r).SameButReads (t.afterVerdict r) := by
  obtain ⟨b, a, rfl⟩ := h
  cases r
  · exact ⟨Config.freeRxBuf s.freeDraws, a, rfl⟩
  · exact ⟨b, a, rfl⟩

theorem State.SameButReads.conclude {s t : State} (h : s.SameButReads t) (r : Except ErrorKind Value) :
    (s.conclude r).SameButReads (t.conclude r) := by
  obtain ⟨b, a, rfl⟩ := h
  cases r <;> exact ⟨b, a, rfl⟩

theorem State.SameButReads.waitEnd {s t : State} (h : s.SameButReads t) (me : Instr) (wanted : Bool) (interval : Nat)
    (r : Except ErrorKind Bool) : (waitEnd me wanted interval r s).SameButReads (waitEnd me wanted interval r t) := by
  obtain ⟨b, a, rfl⟩ := h
  unfold Machine.waitEnd
  cases r with
  | error e => exact ⟨b, a, rfl⟩
  | ok present => dsimp only; split <;> exact ⟨b, a, rfl⟩

/-- Two pieces of work with the same answer, in two such states. -/
def SameEnd {α : Type} (p q : α × State) : Prop := q.1 = p.1 ∧ p.2.SameButReads q.2

theorem SameEnd.conclude {α : Type} {p q : α × State} (h : SameEnd p q) (result : α → Except ErrorKind Value) :
    (p.2.conclude (result p.1)).SameButReads (q.2.conclude (result q.1)) := by
  obtain ⟨he, hs⟩ := h
  rw [he]
  exact hs.conclude _

/-- `s` where the transport answers the next read with `raw`, and those after it as given. -/
def State.answering (later : List ReadAnswer) (drawn : Nat) (raw : List Byte) (s : State) : State :=
  { s with reads := ⟨.bytes raw :: later, drawn⟩ }

theorem readAnswer_answering {later : List ReadAnswer} {drawn : Nat} {raw : List Byte} (fits : raw.length ≤ maxFrame)
    (s : State) : (s.answering later drawn raw).readAnswer = .bytes raw := by
  simp [State.readAnswer, State.answering, Script.next, List.take_of_length_le fits]

section SideBySide

variable {raw raw' : List Byte} (h : SameFrame raw raw') (later : List ReadAnswer) (drawn : Nat) (s : State)
include h

/-- The exchange itself (R71): the same events, the same count, and the two reads in RXBUF. -/
theorem SameFrame.afterRead (cmd : Byte) :
    State.SameButReads (((s.answering later drawn raw).afterRead cmd raw).closeSession)
      (((s.answering later drawn raw').afterRead cmd raw').closeSession) := by
  refine ⟨loadRegs (Config.freeRxBuf s.freeDraws) raw', ⟨later, drawn⟩, ?_⟩
  simp only [State.afterRead, State.storeResponse, h.length_eq]
  rfl

theorem SameFrame.sameEnd_selectTag :
    SameEnd (selectTag (s.answering later drawn raw)) (selectTag (s.answering later drawn raw')) := by
  cases hw : s.writeAnswer with
  | ioError =>
    rw [selectTag_of_writeFailed (s := s.answering later drawn raw) hw,
      selectTag_of_writeFailed (s := s.answering later drawn raw') hw]
    exact ⟨rfl, _, _, rfl⟩
  | ok =>
    rw [selectTag_of_read (s := s.answering later drawn raw) hw (readAnswer_answering h.fits s),
      selectTag_of_read (s := s.answering later drawn raw') hw (readAnswer_answering h.symm.fits s),
      h.selectVerdict_eq]
    exact ⟨rfl, ((h.afterRead later drawn s _).afterVerdict _).recordOf _⟩

theorem SameFrame.sameEnd_readFirmware :
    SameEnd (readFirmware (s.answering later drawn raw)) (readFirmware (s.answering later drawn raw')) := by
  cases hw : s.writeAnswer with
  | ioError =>
    rw [readFirmware_of_writeFailed (s := s.answering later drawn raw) hw,
      readFirmware_of_writeFailed (s := s.answering later drawn raw') hw]
    exact ⟨rfl, _, _, rfl⟩
  | ok =>
    rw [readFirmware_of_read (s := s.answering later drawn raw) hw (readAnswer_answering h.fits s),
      readFirmware_of_read (s := s.answering later drawn raw') hw (readAnswer_answering h.symm.fits s),
      h.firmwareVerdict_eq]
    exact ⟨rfl, (h.afterRead later drawn s _).afterVerdict _⟩

theorem SameFrame.sameEnd_pollPresence :
    SameEnd (pollPresence (s.answering later drawn raw)) (pollPresence (s.answering later drawn raw')) := by
  cases hm : s.cfg.mode with
  | pinSensed =>
    rw [pollPresence_pinSensed (s := s.answering later drawn raw) hm,
      pollPresence_pinSensed (s := s.answering later drawn raw') hm]
    exact ⟨rfl, _, _, rfl⟩
  | protocolPolled =>
    rw [pollPresence_protocolPolled (s := s.answering later drawn raw) hm,
      pollPresence_protocolPolled (s := s.answering later drawn raw') hm]
    obtain ⟨he, hs⟩ := h.sameEnd_selectTag later drawn s
    exact ⟨congrArg presenceOf he, hs⟩

theorem SameFrame.sameButReads_waitIteration (me : Instr) (wanted : Bool) (interval : Nat) :
    (waitIteration me wanted interval (s.answering later drawn raw)).SameButReads
      (waitIteration me wanted interval (s.answering later drawn raw')) := by
  rw [waitIteration_eq, waitIteration_eq]
  have hcancel (r : List Byte) : (s.answering later drawn r).cancelAnswer = s.cancelAnswer := rfl
  rw [hcancel raw, hcancel raw']
  split
  · exact ⟨_, _, rfl⟩
  · obtain ⟨he, hs⟩ := h.sameEnd_pollPresence later drawn s.cancelSample
    exact he ▸ hs.waitEnd me wanted interval _

/-- Every operation that reads. -/
theorem SameFrame.sameButReads_hostEffect {i : Instr} (hi : i = .selectTag ∨ i = .getFirmware ∨ i = .isPresent ∨
    i = .waitUntilPresent ∨ i = .waitUntilAbsent) :
    (hostEffect i (s.answering later drawn raw)).SameButReads (hostEffect i (s.answering later drawn raw')) := by
  rcases hi with rfl | rfl | rfl | rfl | rfl
  · exact (h.sameEnd_selectTag later drawn s).conclude (Except.map SelectResult.value)
  · exact (h.sameEnd_readFirmware later drawn s).conclude id
  · exact (h.sameEnd_pollPresence later drawn s).conclude (Except.map Value.present)
  · exact h.sameButReads_waitIteration later drawn s ..
  · exact h.sameButReads_waitIteration later drawn s ..

end SideBySide

/-- Settles O22: the operation is refused in both blocks, or has its effect in both. -/
theorem trailingBytesChangeNothing : Obligations.TrailingBytesChangeNothing := by
  intro i s t raw raw' later drawn hi fits hlen hagree hreads he
  have h : SameFrame raw raw' := ⟨fits, hlen, hagree⟩
  have hs : s.answering later drawn raw = s := by rw [State.answering, ← hreads]
  have hp : i.port = .hostWord := by rcases hi with rfl | rfl | rfl | rfl | rfl <;> rfl
  obtain ⟨t', he', b, a, rfl⟩ : ∃ t', exec i (s.answering later drawn raw') = .next t' ∧ t.SameButReads t' := by
    rcases exec_hostWord_cases hp he with ⟨hb, rfl⟩ | ⟨hidle, rfl⟩
    · exact ⟨_, exec_of_busy (s := s.answering later drawn raw') hp hb, _, _, rfl⟩
    · refine ⟨_, exec_of_idle (s := s.answering later drawn raw') hp hidle, ?_⟩
      rw [← hs]
      exact h.sameButReads_hostEffect later drawn s hi
  exact ⟨_, he', rfl⟩

end Sys2Proof.Machine
end

section
/-! PROOF. Family 40_frame_codec.md: the codec. A read that fails one of the four checks of R111 is malformed, and the
two host operations of the codec hand over their result on a block at rest and do nothing else (R112). -/

namespace Sys2Proof.Machine

/-! ### The four checks -/

/-- R111: one of the four checks fails. -/
def FailsACheck (raw : List Byte) (minLen : Nat) : Prop :=
  raw.length < minLen ∨ raw = [] ∨
    ∃ len rest, raw = len :: rest ∧ (len.toNat < 2 ∨ rest.length + 1 < len.toNat + 1)

/-- What decodes has passed them all, so what fails one does not decode, and the four causes are one error. -/
theorem FailsACheck.parseFrame_eq {raw : List Byte} {minLen : Nat} (h : FailsACheck raw minLen) :
    parseFrame raw minLen = .error .malformedFrame := by
  cases hd : decodeResponse raw minLen with
  | error d => simp only [parseFrame, hd]
  | ok f =>
    obtain ⟨after, rfl, hmin, hlow, hin, -⟩ := decodeResponse_cases hd
    rcases h with hshort | hnil | ⟨len, rest, hraw, hlen⟩
    · omega
    · cases hnil
    · obtain ⟨rfl, rfl⟩ := List.cons.inj hraw
      rw [List.length_cons] at hin
      omega

/-- Settles O5: with bit 7 set LEN is 128 or more, and no frame of that length lies inside 15 bytes. -/
theorem lengthByteWithBitSevenIsMalformed : Obligations.LengthByteWithBitSevenIsMalformed := by
  intro len rest minLen fits hmsb
  have hlen : 128 ≤ len.toNat := BitVec.le_toNat_of_msb_true hmsb
  exact FailsACheck.parseFrame_eq (.inr (.inr ⟨len, rest, rfl, .inr (by omega)⟩))

/-! ### The two operations on a block at rest -/

theorem exec_encodeCommand_of_quiet {s : State} (q : s.Quiet) (cmd : Byte) :
    exec (.encodeCommand cmd) s = .next (s.withResult (.ok (.bytes (commandFrame cmd)))) := by
  rw [exec_of_idle rfl q.idle, hostEffect, q.deliver]

theorem exec_decodeFrame_of_quiet {s : State} (q : s.Quiet) (minLen : Byte) :
    exec (.decodeFrame minLen) s =
      .next (s.withResult (resultOf ((parseFrame s.operand minLen.toNat).map Value.frame))) := by
  rw [exec_of_idle rfl q.idle, hostEffect, q.conclude]

/-- Settles O24: the result is the command frame, and the same frame is what an exchange loads. -/
theorem encodeCommandReturnsTheFrame : Obligations.EncodeCommandReturnsTheFrame := fun s cmd =>
  ⟨fun q => exec_encodeCommand_of_quiet q cmd, txBytes_loadCommand s cmd⟩

/-- Settles O25: the result is a function of `cmd`, or of the operand and `minLen`. -/
theorem codecIsPure : Obligations.CodecIsPure := by
  rintro i raw (⟨cmd, rfl⟩ | ⟨minLen, rfl⟩)
  · exact ⟨_, fun s q _ => exec_encodeCommand_of_quiet q cmd⟩
  · refine ⟨resultOf ((parseFrame raw minLen.toNat).map Value.frame), fun s q hraw => ?_⟩
    rw [exec_decodeFrame_of_quiet q, hraw]

/-- Settles O26: a read of the checked shape decodes to its fields, and one that fails a check is malformed. -/
theorem decodeFrameChecksThenSplits : Obligations.DecodeFrameChecksThenSplits := by
  intro s minLen q
  rw [exec_decodeFrame_of_quiet q]
  refine ⟨fun len cmd rest hraw hmin hlow hin => ?_, fun (hfail : FailsACheck _ _) => ?_⟩
  · rw [hraw, parseFrame_of_decode (decodeResponse_of_shape len cmd rest _ hmin hlow hin)]
    rfl
  · rw [hfail.parseFrame_eq]
    rfl

end Sys2Proof.Machine
end

section
/-! PROOF. Family 41_version_validator.md: the verdict is a function of the first byte, and VALIDATE on a block at rest
hands it over and does nothing else (R130). -/

namespace Sys2Proof.Machine

/-! ### The verdict -/

theorem verdictOf_nil : verdictOf [] = .error .malformedFrame := rfl

theorem verdictOf_recognized (rest : List Byte) : verdictOf (0x53 :: rest) = .ok .recognizedOk := rfl

theorem verdictOf_clockSpeed (rest : List Byte) : verdictOf (0xD3 :: rest) = .ok .clockSpeedCorruption := rfl

/-- The other 254 values. -/
theorem verdictOf_unrecognized {b : Byte} (hok : b ≠ 0x53) (hclock : b ≠ 0xD3) (rest : List Byte) :
    verdictOf (b :: rest) = .ok .unrecognizedDevice := by
  rw [verdictOf, if_neg hok, if_neg hclock]

/-! ### The operation on a block at rest -/

theorem exec_validate_of_quiet {s : State} (q : s.Quiet) :
    exec .validate s = .next (s.withResult (resultOf ((verdictOf s.operand).map Value.verdict))) := by
  rw [exec_of_idle rfl q.idle, hostEffect, q.conclude]

/-- Settles O27: the result is the verdict on the operand, which has one case for each class of first byte. -/
theorem validateClassifiesTheFirstByte : Obligations.ValidateClassifiesTheFirstByte := by
  intro s q
  rw [exec_validate_of_quiet q]
  refine ⟨fun hnil => ?_, fun b rest hcons => ⟨?_, ?_, fun hok hclock => ?_⟩⟩
  · rw [hnil, verdictOf_nil]
    rfl
  · rintro rfl
    rw [hcons, verdictOf_recognized]
    rfl
  · rintro rfl
    rw [hcons, verdictOf_clockSpeed]
    rfl
  · rw [hcons, verdictOf_unrecognized hok hclock]
    rfl

end Sys2Proof.Machine
end

section
/-! PROOF. Family 42_tag_session.md: SELECT_TAG and GET_FIRMWARE by the answers of the transport (R140, R141), that a
select reads no record (R149), and ProtocolPolled IS_PRESENT, which is a select (R180). -/

namespace Sys2Proof.Machine

/-! ### The two operations on a block at rest -/

theorem exec_selectTag_of_quiet {s : State} (q : s.Quiet) :
    exec .selectTag s =
      .next ((selectTag s).2.withResult (resultOf ((selectTag s).1.map SelectResult.value))) := by
  rw [exec_of_idle rfl q.idle, hostEffect, q.selectTag.conclude]

theorem exec_getFirmware_of_quiet {s : State} (q : s.Quiet) :
    exec .getFirmware s = .next ((readFirmware s).2.withResult (resultOf (readFirmware s).1)) := by
  rw [exec_of_idle rfl q.idle, hostEffect, q.readFirmware.conclude]

theorem selectTag_of_readFailed {s : State} (hw : s.writeAnswer = .ok) (hr : s.readAnswer = .ioError) :
    selectTag s =
      (.error .ioError, (s.afterAsking s.cfg.cmdSelectMifare).closeSession.loseRxBuf.clearRecord) := by
  rcases selectTag_cases s with ⟨h, -⟩ | ⟨-, -, e⟩ | ⟨_, -, h, -⟩
  · simp [hw] at h
  · exact e
  · simp [hr] at h

theorem readFirmware_of_readFailed {s : State} (hw : s.writeAnswer = .ok) (hr : s.readAnswer = .ioError) :
    readFirmware s = (.error .ioError, (s.afterAsking s.cfg.cmdGetFirmware).closeSession.loseRxBuf) := by
  rcases readFirmware_cases s with ⟨h, -⟩ | ⟨-, -, e⟩ | ⟨_, -, h, -⟩
  · simp [hw] at h
  · exact e
  · simp [hr] at h

theorem afterWrite_closed {s : State} (q : s.Quiet) (cmd : Byte) :
    (s.afterWrite cmd).closeSession = s.afterWrite cmd :=
  closeSession_of_closed q.noSession

theorem afterAsking_closed {s : State} (q : s.Quiet) (cmd : Byte) :
    (s.afterAsking cmd).closeSession = s.afterAsking cmd :=
  closeSession_of_closed q.noSession

/-! ### R149: the record a select finds -/

/-- A select overwrites the record whichever way it goes, and has not read it before. -/
theorem selectTag_reads_no_record (s : State) (sel : Bool) (cardType : Option Byte) (uid : List Byte) :
    selectTag { s with sel := sel, cardType := cardType, uid := uid } = selectTag s := by
  rcases selectTag_cases s with ⟨hw, e⟩ | ⟨hw, hr, e⟩ | ⟨raw, hw, hr, -, e⟩
  · rw [e, selectTag_of_writeFailed (s := { s with sel := sel, cardType := cardType, uid := uid }) hw]
    rfl
  · rw [e, selectTag_of_readFailed (s := { s with sel := sel, cardType := cardType, uid := uid }) hw hr]
    rfl
  · rw [e, selectTag_of_read (s := { s with sel := sel, cardType := cardType, uid := uid }) hw hr]
    rcases selectVerdict raw with _ | _ | _ <;> rfl

/-- Settles O23: the operation is the select, and the select reads no record. -/
theorem selectReadsNoRecord : Obligations.SelectReadsNoRecord := by
  intro s sel cardType uid hidle
  rw [exec_of_idle (s := { s with sel := sel, cardType := cardType, uid := uid }) rfl hidle, exec_of_idle rfl hidle,
    hostEffect, hostEffect, selectTag_reads_no_record]

/-! ### What a select makes of a response with STATUS 0x00 -/

theorem slice_succ {raw : List Byte} {start k : Nat} {b : Byte} (h : raw[start + k]? = some b) :
    slice raw start (k + 1) = slice raw start k ++ [b] := by
  simp [slice, List.take_add_one, h]

/-- R86: the payload is the STATUS byte at index 2 and the bytes from index 3 to LEN. -/
theorem payload_eq_status_cons {raw : List Byte} {m : Nat} {f : ResponseFrame} {status : Byte}
    (hd : decodeResponse raw m = .ok f) (hs : raw[2]? = some status) :
    f.payload = status :: slice raw 3 (f.length.toNat - 2) := by
  rw [getElem?_two_eq_payload_head? hd] at hs
  rw [slice_eq_payload_tail hd, List.cons_head?_tail hs]

theorem selectVerdict_of_status {raw : List Byte} {f : ResponseFrame} {status : Byte}
    (hd : decodeResponse raw minLenSelect = .ok f) (hs : raw[2]? = some status) :
    selectVerdict raw = selectOutcome status (slice raw 3 (f.length.toNat - 2)).dropLast
      (slice raw 3 (f.length.toNat - 2)).getLast? := by
  simp only [selectVerdict, parseFrame_of_decode hd, selectReading, payload_eq_status_cons hd hs]

/-- R87: with a byte at index LEN, that byte is the TYPE and the bytes before it, from index 3 on, are the UID. -/
theorem selectVerdict_selected {raw : List Byte} {f : ResponseFrame} {cardType : Byte}
    (hd : decodeResponse raw minLenSelect = .ok f) (hs : raw[2]? = some 0x00) (hlen : 3 ≤ f.length.toNat)
    (ht : raw[f.length.toNat]? = some cardType) :
    selectVerdict raw = .ok (.selected cardType (slice raw 3 (f.length.toNat - 3))) := by
  obtain ⟨k, hk⟩ : ∃ k, f.length.toNat = 3 + k := ⟨f.length.toNat - 3, by omega⟩
  rw [selectVerdict_of_status hd hs, hk, show 3 + k - 2 = k + 1 by omega, show 3 + k - 3 = k by omega,
    slice_succ (hk ▸ ht), List.dropLast_concat, List.getLast?_concat, selectOutcome_of_type rfl]

/-- D7: at LEN = 2 there is no TYPE byte. -/
theorem selectVerdict_without_type {raw : List Byte} {f : ResponseFrame}
    (hd : decodeResponse raw minLenSelect = .ok f) (hs : raw[2]? = some 0x00) (hlen : f.length.toNat = 2) :
    selectVerdict raw = .error .malformedFrame := by
  rw [selectVerdict_of_status hd hs, hlen]
  exact selectOutcome_of_no_type rfl _

theorem parseFrame_of_decode_error {raw : List Byte} {minLen : Nat} {d : DecodeError}
    (h : decodeResponse raw minLen = .error d) : parseFrame raw minLen = .error .malformedFrame := by
  simp only [parseFrame, h]

theorem selectVerdict_of_decode_error {raw : List Byte} {d : DecodeError}
    (h : decodeResponse raw minLenSelect = .error d) : selectVerdict raw = .error .malformedFrame := by
  simp only [selectVerdict, parseFrame_of_decode_error h]

/-- Settles O31: the verdict is Selected, and the UID is LEN - 3 of the 15 bytes at most. -/
theorem selectTagSetsTheRecord : Obligations.SelectTagSetsTheRecord := by
  intro s raw f cardType q hw hr hd hs hlen ht
  have hv := selectVerdict_selected hd hs hlen ht
  have hfits := readAnswer_fits hr
  obtain ⟨rest, -, -, -, hin, -⟩ := decodeResponse_cases hd
  have huid : (slice raw 3 (f.length.toNat - 3)).length = f.length.toNat - 3 := by
    rw [slice, List.length_take, List.length_drop]
    omega
  refine ⟨_, exec_selectTag_of_read q hw hr, ?_⟩
  rw [hv]
  exact ⟨rfl, huid, huid.trans_le (by omega)⟩

/-- Settles O33: the exchange fails at its write or at its read, or the verdict on what was read is MalformedFrame. -/
theorem failedSelectTagClears : Obligations.FailedSelectTagClears := by
  intro s q
  refine ⟨fun hw => ?_, fun hw hr => ?_, fun raw hw hr hbad => ?_⟩
  · rw [exec_selectTag_of_quiet q, selectTag_of_writeFailed hw, afterWrite_closed q]
    rfl
  · rw [exec_selectTag_of_quiet q, selectTag_of_readFailed hw hr, afterAsking_closed q]
    rfl
  · have hv : selectVerdict raw = .error .malformedFrame := by
      rcases hbad with ⟨d, hd⟩ | ⟨f, hd, hs, hlen⟩
      · exact selectVerdict_of_decode_error hd
      · exact selectVerdict_without_type hd hs hlen
    rw [exec_selectTag_of_read q hw hr, hv]
    rfl

/-! ### The firmware read -/

theorem firmwareVerdict_of_decode_error {raw : List Byte} {d : DecodeError}
    (h : decodeResponse raw minLenFirmware = .error d) : firmwareVerdict raw = .error .malformedFrame := by
  simp only [firmwareVerdict, parseFrame_of_decode_error h]

/-- Settles O35: the exchange fails at its write, at its read, or at the codec's checks. -/
theorem failedGetFirmwareLeavesTheRecord : Obligations.FailedGetFirmwareLeavesTheRecord := by
  intro s q
  refine ⟨fun hw => ?_, fun hw hr => ?_, fun raw d hw hr hd => ?_⟩
  · rw [exec_getFirmware_of_quiet q, readFirmware_of_writeFailed hw, afterWrite_closed q]
    rfl
  · rw [exec_getFirmware_of_quiet q, readFirmware_of_readFailed hw hr, afterAsking_closed q]
    rfl
  · rw [exec_getFirmware_of_read q hw hr, firmwareVerdict_of_decode_error hd]
    rfl

/-! ### The record and the result of a select -/

/-- R140: the record after a select is the one its result says. -/
theorem selectTag_recordOf (s : State) : ∃ u : State, (selectTag s).2 = u.recordOf (selectTag s).1 := by
  rcases selectTag_cases s with ⟨-, e⟩ | ⟨-, -, e⟩ | ⟨raw, -, -, -, e⟩ <;> rw [e] <;> exact ⟨_, rfl⟩

/-- SEL is 1 exactly after a select that selected. -/
theorem selectTag_sel_iff (s : State) :
    (selectTag s).2.sel = true ↔ ∃ cardType uid, (selectTag s).1 = .ok (.selected cardType uid) := by
  obtain ⟨u, hu⟩ := selectTag_recordOf s
  rw [hu]
  rcases (selectTag s).1 with _ | _ | _ <;> simp [State.recordOf]

theorem resultOf_eq_selected_iff {r : Except ErrorKind SelectResult} {cardType : Byte} {uid : List Byte} :
    resultOf (r.map SelectResult.value) = .ok (.selected cardType uid) ↔ r = .ok (.selected cardType uid) := by
  rcases r with _ | _ | _ <;> simp [resultOf, Except.map, SelectResult.value]

/-! ### ProtocolPolled IS_PRESENT -/

theorem exec_isPresent_of_protocolPolled {s : State} (q : s.Quiet) (hm : s.cfg.mode = .protocolPolled) :
    exec .isPresent s =
      .next ((selectTag s).2.withResult (resultOf ((presenceOf (selectTag s).1).map Value.present))) := by
  rw [exec_of_idle rfl q.idle, hostEffect, pollPresence_protocolPolled hm, q.selectTag.conclude]

/-- Settles O42: the two operations run one select and hand over its result, each in its own form. -/
theorem protocolPolledPresenceIsASelect : Obligations.ProtocolPolledPresenceIsASelect := by
  intro s q hm
  refine ⟨_, _, exec_selectTag_of_quiet q, ?_, ?_⟩
  · rw [exec_isPresent_of_protocolPolled q hm]
    rcases (selectTag s).1 with _ | _ | _ <;> rfl
  · simp only [resultOf_eq_selected_iff]
    exact selectTag_sel_iff s

end Sys2Proof.Machine
end

section
/-! PROOF. Family 42_tag_session.md: DESELECT and the three accessors (R142 to R145), and the source's select property:
what the accessors report after a select is what the select returned (S2, S3). -/

namespace Sys2Proof.Machine

/-! ### DESELECT and the accessors on a block at rest -/

theorem State.Quiet.clearRecord {s : State} (q : s.Quiet) : s.clearRecord.Quiet := q.congr rfl rfl rfl rfl rfl rfl rfl

theorem State.Quiet.withResult {s : State} (q : s.Quiet) (r : Result) : (s.withResult r).Quiet :=
  q.congr rfl rfl rfl rfl rfl rfl rfl

/-- Settles O36: the record is cleared and the result is handed over. -/
theorem deselectClearsTheRecord : Obligations.DeselectClearsTheRecord := by
  intro s q
  rw [exec_of_idle rfl q.idle, hostEffect, q.clearRecord.deliver]
  rfl

theorem currentUid_of_selected {s : State} (h : s.sel = true) : currentUid s = s.uid := by
  simp [currentUid, h, slice, State.uidLen]

theorem currentUid_of_idle {s : State} (h : s.sel = false) : currentUid s = [] := by
  simp [currentUid, h]

theorem exec_getUid_of_quiet {s : State} (q : s.Quiet) :
    exec .getUid s = .next (s.withResult (.ok (.bytes (currentUid s)))) := by
  rw [exec_of_idle rfl q.idle, hostEffect, q.deliver]

theorem exec_getUidHex_of_quiet {s : State} (q : s.Quiet) :
    exec .getUidHex s = .next (s.withResult (.ok (.text (hexText (currentUid s))))) := by
  rw [exec_of_idle rfl q.idle, hostEffect, q.deliver]

theorem exec_getType_of_quiet {s : State} (q : s.Quiet) :
    exec .getType s = .next (s.withResult (.ok (.cardType (if s.sel then s.cardType else none)))) := by
  rw [exec_of_idle rfl q.idle, hostEffect, q.deliver]

/-- Settles O37: SEL decides between the record and its empty values. -/
theorem accessorsReportTheRecord : Obligations.AccessorsReportTheRecord := by
  intro s q
  rw [exec_getUid_of_quiet q, exec_getUidHex_of_quiet q, exec_getType_of_quiet q]
  refine ⟨fun h => ?_, fun h => ?_⟩
  · rw [currentUid_of_selected h, if_pos h]
    exact ⟨rfl, rfl, rfl⟩
  · rw [currentUid_of_idle h, if_neg (by simp [h])]
    exact ⟨rfl, rfl, rfl⟩

/-! ### After a select -/

theorem parseFrame_error {raw : List Byte} {minLen : Nat} {e : ErrorKind} (h : parseFrame raw minLen = .error e) :
    e = .malformedFrame := by
  cases hd : decodeResponse raw minLen with
  | ok f => simp [parseFrame_of_decode hd] at h
  | error d => simpa [parseFrame_of_decode_error hd] using h.symm

theorem selectOutcome_error {status : Byte} {uid : List Byte} {type : Option Byte} {e : ErrorKind}
    (h : selectOutcome status uid type = .error e) : e = .malformedFrame := by
  by_cases hs : status = 0x00
  · cases type with
    | none => simpa [selectOutcome_of_no_type hs] using h.symm
    | some cardType => simp [selectOutcome_of_type hs] at h
  · simp [selectOutcome_of_ne hs] at h

/-- R140: whatever is wrong with a read, a select says MalformedFrame. -/
theorem selectVerdict_error {raw : List Byte} {e : ErrorKind} (h : selectVerdict raw = .error e) :
    e = .malformedFrame := by
  cases hd : decodeResponse raw minLenSelect with
  | error d => simpa [selectVerdict_of_decode_error hd] using h.symm
  | ok f =>
    obtain ⟨status, rest, hp⟩ := decodeResponse_payload_cons hd
    have hs : raw[2]? = some status := by rw [getElem?_two_eq_payload_head? hd, hp]; rfl
    exact selectOutcome_error ((selectVerdict_of_status hd hs).symm.trans h)

/-- R201, R202: the two errors of a select. -/
theorem selectTag_error {s : State} {e : ErrorKind} (h : (selectTag s).1 = .error e) :
    e = .ioError ∨ e = .malformedFrame := by
  rcases selectTag_cases s with ⟨-, he⟩ | ⟨-, -, he⟩ | ⟨raw, -, -, -, he⟩ <;> rw [he] at h
  · cases h; exact .inl rfl
  · cases h; exact .inl rfl
  · exact .inr (selectVerdict_error h)

/-- A select on a block at rest ends at rest, with one result and the record that result says. -/
theorem exec_selectTag_end {s t : State} (q : s.Quiet) (he : exec .selectTag s = .next t) :
    ∃ (r : Except ErrorKind SelectResult) (u : State),
      t = (u.recordOf r).withResult (resultOf (r.map SelectResult.value)) ∧ t.Quiet ∧
      (u.recordOf r).results = s.results ∧ ∀ e, r = .error e → e = .ioError ∨ e = .malformedFrame := by
  cases (exec_selectTag_of_quiet q).symm.trans he
  obtain ⟨u, hu⟩ := selectTag_recordOf s
  obtain ⟨-, hresults⟩ := selectTag_worked s
  exact ⟨(selectTag s).1, u, by rw [← hu], q.selectTag.withResult _, by rw [← hu, hresults],
    fun _ => selectTag_error⟩

/-- Settles O38: the accessors report the record, and the record is the one the result of the select says. -/
theorem accessorsAgreeWithTheLastSelect : Obligations.AccessorsAgreeWithTheLastSelect := by
  intro s t q he
  obtain ⟨r, u, rfl, qt, hresults, herror⟩ := exec_selectTag_end q he
  obtain ⟨hselected, hidle⟩ := accessorsReportTheRecord _ qt
  rcases r with e | ⟨cardType, uid⟩ | _
  · exact .inr ⟨.err e, congrArg (· ++ _) hresults, .inr (by simpa using herror e rfl), ⟨rfl, rfl, rfl⟩, hidle rfl⟩
  · exact .inl ⟨cardType, uid, congrArg (· ++ _) hresults, rfl, hselected rfl⟩
  · exact .inr ⟨.ok .noTag, congrArg (· ++ _) hresults, .inl rfl, ⟨rfl, rfl, rfl⟩, hidle rfl⟩

end Sys2Proof.Machine
end

section
/-! PROOF. Family 42_tag_session.md: the texts. UID_TO_HEX renders two digits for each byte (R94, R146), TYPE_NAME has
one case for each entry of the name table and decimal digits for the rest (R95, R147, R148). -/

namespace Sys2Proof.Machine

/-! ### UID_TO_HEX -/

/-- R94: the two digits of a byte are its quotient and its remainder by 16. -/
theorem hexDigit_high (b : Byte) : hexDigit (b.extractLsb' 4 4) =
    if b.toNat / 16 ≤ 9 then 0x30 + b.toNat / 16 else 0x41 + (b.toNat / 16 - 10) := by
  have h : (b.extractLsb' 4 4).toNat = b.toNat / 16 := by
    rw [BitVec.extractLsb'_toNat, Nat.shiftRight_eq_div_pow]
    omega
  rw [hexDigit, h]

theorem hexDigit_low (b : Byte) : hexDigit (b.extractLsb' 0 4) =
    if b.toNat % 16 ≤ 9 then 0x30 + b.toNat % 16 else 0x41 + (b.toNat % 16 - 10) := by
  have h : (b.extractLsb' 0 4).toNat = b.toNat % 16 := by
    rw [BitVec.extractLsb'_toNat, Nat.shiftRight_zero]
  rw [hexDigit, h]

theorem hexText_cons (b : Byte) (bytes : List Byte) :
    hexText (b :: bytes) = hexDigit (b.extractLsb' 4 4) :: hexDigit (b.extractLsb' 0 4) :: hexText bytes := rfl

theorem hexText_length (bytes : List Byte) : (hexText bytes).length = 2 * bytes.length := by
  induction bytes with
  | nil => rfl
  | cons b bytes ih => simp only [hexText_cons, List.length_cons, ih]; omega

/-- R146: the digits of the byte at index `k` stand at the indices `2 * k` and `2 * k + 1`. -/
theorem hexText_getElem? {bytes : List Byte} {k : Nat} {b : Byte} (h : bytes[k]? = some b) :
    (hexText bytes)[2 * k]? = some (hexDigit (b.extractLsb' 4 4)) ∧
      (hexText bytes)[2 * k + 1]? = some (hexDigit (b.extractLsb' 0 4)) := by
  induction bytes generalizing k with
  | nil => cases h
  | cons a bytes ih =>
    cases k with
    | zero => cases h; exact ⟨rfl, rfl⟩
    | succ k => exact ih h

theorem exec_uidToHex_of_quiet {s : State} (q : s.Quiet) :
    exec .uidToHex s = .next (s.withResult (.ok (.text (hexText s.operand)))) := by
  rw [exec_of_idle rfl q.idle, hostEffect, q.deliver]

/-- Settles O39: the two digits of each byte, by the index they stand at. -/
theorem uidToHexRendersTwoDigitsPerByte : Obligations.UidToHexRendersTwoDigitsPerByte := by
  intro s q
  refine ⟨_, exec_uidToHex_of_quiet q, hexText_length _, fun k b hb => ?_⟩
  rw [← hexDigit_high, ← hexDigit_low]
  exact hexText_getElem? hb

/-! ### TYPE_NAME -/

theorem toDigits_codes_of_lt {n : Nat} (h : n < 10) : (Nat.toDigits 10 n).map Char.toNat = [decDigit n] := by
  rw [Nat.toDigits_of_lt_base h, List.map_singleton, Nat.toNat_digitChar_of_lt_ten h, decDigit]

/-- The last decimal digit, and those before it (R95). -/
theorem toDigits_codes_of_ge {n : Nat} (h : 10 ≤ n) :
    (Nat.toDigits 10 n).map Char.toNat = (Nat.toDigits 10 (n / 10)).map Char.toNat ++ [decDigit (n % 10)] := by
  rw [Nat.toDigits_of_base_le (by decide) h, List.map_append, List.map_singleton,
    Nat.toNat_digitChar_of_lt_ten (Nat.mod_lt n (by decide)), decDigit]

/-- R95: a byte has one, two or three decimal digits. -/
theorem dec_eq_toDigits (b : Byte) : dec b = (Nat.toDigits 10 b.toNat).map Char.toNat := by
  have hb : b.toNat < 256 := b.isLt
  simp only [dec]
  split
  · rw [toDigits_codes_of_lt (by omega)]
  · split
    · rw [toDigits_codes_of_ge (by omega), toDigits_codes_of_lt (by omega)]
      rfl
    · rw [toDigits_codes_of_ge (by omega), toDigits_codes_of_ge (by omega), toDigits_codes_of_lt (by omega),
        Nat.div_div_eq_div_mul, show b.toNat / 10 % 10 = b.toNat % 100 / 10 by omega]
      rfl

/-- R26, R91: the codes without a name. -/
theorem cardTypeOf_unknown {code : Byte} (h : code = 0x00 ∨ (0x07 ≤ code.toNat ∧ code ≠ 0x0A)) :
    cardTypeOf code = .unknown code := by
  have hne : code.toNat = 0 ∨ (7 ≤ code.toNat ∧ code.toNat ≠ 10) := by
    rcases h with rfl | ⟨hlow, hten⟩
    · exact .inl rfl
    · exact .inr ⟨hlow, fun he => hten (BitVec.eq_of_toNat_eq he)⟩
  unfold cardTypeOf
  split
  case h_8 => rfl
  all_goals omega

theorem nameOf_unknown {code : Byte} (h : code = 0x00 ∨ (0x07 ≤ code.toNat ∧ code ≠ 0x0A)) (cfg : Config) :
    nameOf cfg code = unknownHead ++ (Nat.toDigits 10 code.toNat).map Char.toNat := by
  simp only [nameOf, cardTypeOf_unknown h, dec_eq_toDigits]

theorem exec_typeName_of_quiet {s : State} (q : s.Quiet) (code : Byte) :
    exec (.typeName code) s = .next (s.withResult (.ok (.text (nameOf s.cfg code)))) := by
  rw [exec_of_idle rfl q.idle, hostEffect, q.deliver]

/-- Settles O40: the seven entries of the name table, and every other code in decimal. -/
theorem typeNameCoversEveryCode : Obligations.TypeNameCoversEveryCode := by
  intro s code q
  refine ⟨_, exec_typeName_of_quiet q code, ?_, ?_, ?_, ?_, ?_, ?_, ?_, fun h => nameOf_unknown h s.cfg⟩
  all_goals
    rintro rfl
    rfl

end Sys2Proof.Machine
end

section
/-! PROOF. Family 43_presence_detector.md: IS_PRESENT by the pin and the polls of the two waits. What one iteration of a
wait does is said once for each mode; a PinSensed wait is then followed over any number of polls that do not satisfy it,
and what comes of it (the level comes, or it has still not come) is read off the iteration it stands before. -/

namespace Sys2Proof.Machine

/-! ### IS_PRESENT by the pin -/

/-- Settles O41: the poll is one level read, and Low is present. -/
theorem pinSensedPresenceIsTheLevel : Obligations.PinSensedPresenceIsTheLevel := by
  intro s q hmode
  rw [exec_of_idle rfl q.idle, hostEffect, q.pollPresence.conclude, pollPresence_pinSensed hmode]
  rcases s.levelAnswer with _ | _ <;> rfl

/-! ### One iteration of a wait -/

section Iteration

variable {me : Instr} {wanted : Bool} {interval : Nat} (hm : IsWait me wanted interval) {s : State}

theorem waitIteration_protocolPolled (hmode : s.cfg.mode = .protocolPolled) (hcancel : s.cancelAnswer = false) :
    waitIteration me wanted interval s =
      waitEnd me wanted interval (presenceOf (selectTag s.cancelSample).1) (selectTag s.cancelSample).2 := by
  rw [waitIteration_eq, hcancel, pollPresence_protocolPolled (s := s.cancelSample) hmode]
  rfl

theorem waitIteration_pinSensed (hmode : s.cfg.mode = .pinSensed) (hcancel : s.cancelAnswer = false) :
    waitIteration me wanted interval s =
      waitEnd me wanted interval (.ok (presentAt s.levelAnswer)) s.cancelSample.pinRead := by
  rw [waitIteration_eq, hcancel, pollPresence_pinSensed (s := s.cancelSample) hmode]
  rfl

theorem State.Quiet.cancelSample_pinRead (q : s.Quiet) : s.cancelSample.pinRead.Quiet :=
  q.congr rfl rfl rfl rfl rfl rfl rfl

theorem waitIteration_of_level (q : s.Quiet) (hmode : s.cfg.mode = .pinSensed) (hcancel : s.cancelAnswer = false)
    (hlevel : presentAt s.levelAnswer = wanted) :
    waitIteration me wanted interval s = s.cancelSample.pinRead.withResult (.ok .done) := by
  rw [waitIteration_pinSensed hmode hcancel, waitEnd, if_pos hlevel, q.cancelSample_pinRead.deliver]

theorem waitIteration_of_other_level (hmode : s.cfg.mode = .pinSensed) (hcancel : s.cancelAnswer = false)
    (hlevel : presentAt s.levelAnswer ≠ wanted) :
    waitIteration me wanted interval s = s.cancelSample.pinRead.keepWaiting me interval := by
  rw [waitIteration_pinSensed hmode hcancel, waitEnd, if_neg hlevel]

include hm

/-- A wait presented to an idle block runs its first iteration. -/
theorem exec_wait (hi : s.phase = .idle) : exec me s = .next (waitIteration me wanted interval s) := by
  rcases hm with ⟨rfl, rfl, rfl⟩ | ⟨rfl, rfl, rfl⟩ <;> exact exec_of_idle rfl hi

end Iteration

/-- Settles O43: the first iteration, at the awaited level. -/
theorem satisfiedWaitReturnsAtOnce : Obligations.SatisfiedWaitReturnsAtOnce := by
  intro s q hmode hcancel
  refine ⟨fun hlow => ?_, fun hhigh => ?_⟩
  · rw [exec_wait (.inl ⟨rfl, rfl, rfl⟩) q.idle, waitIteration_of_level q hmode hcancel (by rw [hlow]; rfl)]
    rfl
  · rw [exec_wait (.inr ⟨rfl, rfl, rfl⟩) q.idle, waitIteration_of_level q hmode hcancel (by rw [hhigh]; rfl)]
    rfl

theorem keepWaiting_pinRead (me : Instr) (interval : Nat) (s : State) :
    s.cancelSample.pinRead.keepWaiting me interval =
      { s with cancels := s.cancels.advance, levels := s.levels.advance,
               history := s.history ++ [.level s.cfg.pin, .delay interval], phase := .poll, current := some me } := by
  simp [State.keepWaiting, State.delay, State.emit, State.pinRead, State.cancelSample]

/-- Settles O44: the first iteration, at the other level. -/
theorem unsatisfiedWaitDelaysAndGoesOn : Obligations.UnsatisfiedWaitDelaysAndGoesOn := by
  intro s q hmode hcancel
  refine ⟨fun hhigh => ?_, fun hlow => ?_⟩
  · rw [exec_wait (.inl ⟨rfl, rfl, rfl⟩) q.idle,
      waitIteration_of_other_level hmode hcancel (by rw [hhigh]; nofun), keepWaiting_pinRead]
  · rw [exec_wait (.inr ⟨rfl, rfl, rfl⟩) q.idle,
      waitIteration_of_other_level hmode hcancel (by rw [hlow]; nofun), keepWaiting_pinRead]

/-! ### The poll of a ProtocolPolled wait -/

/-- A select does not look at CANCEL (R42 by D13). -/
theorem selectTag_cancels (s : State) (cancels : Script Bool) :
    selectTag { s with cancels := cancels } = ((selectTag s).1, { (selectTag s).2 with cancels := cancels }) := by
  rcases selectTag_cases s with ⟨hw, e⟩ | ⟨hw, hr, e⟩ | ⟨raw, hw, hr, -, e⟩
  · rw [e, selectTag_of_writeFailed (s := { s with cancels := cancels }) hw]
    rfl
  · rw [e, selectTag_of_readFailed (s := { s with cancels := cancels }) hw hr]
    rfl
  · rw [e, selectTag_of_read (s := { s with cancels := cancels }) hw hr]
    rcases selectVerdict raw with _ | _ | _ <;> rfl

/-- The first iteration of a ProtocolPolled wait: CANCEL is sampled, a select is run, its result decides. -/
theorem exec_wait_protocolPolled {me : Instr} {wanted : Bool} {interval : Nat} (hm : IsWait me wanted interval)
    {s : State} (q : s.Quiet) (hmode : s.cfg.mode = .protocolPolled) (hcancel : s.cancelAnswer = false) :
    exec me s = .next (waitEnd me wanted interval (presenceOf (selectTag s).1)
      { (selectTag s).2 with cancels := s.cancels.advance }) := by
  have hselect : selectTag s.cancelSample =
      ((selectTag s).1, { (selectTag s).2 with cancels := s.cancels.advance }) := selectTag_cancels s _
  rw [exec_wait hm q.idle, waitIteration_protocolPolled hmode hcancel, hselect]

/-- Settles O46: the three results of the poll's select, in each of the two waits. -/
theorem protocolPolledWaitPollsBySelecting : Obligations.ProtocolPolledWaitPollsBySelecting := by
  intro s q hmode hcancel
  refine ⟨_, _, exec_selectTag_of_quiet q, ?_⟩
  rw [exec_wait_protocolPolled (.inl ⟨rfl, rfl, rfl⟩) q hmode hcancel,
    exec_wait_protocolPolled (.inr ⟨rfl, rfl, rfl⟩) q hmode hcancel]
  have hq : ({ (selectTag s).2 with cancels := s.cancels.advance } : State).Quiet :=
    q.selectTag.congr rfl rfl rfl rfl rfl rfl rfl
  rcases (selectTag s).1 with e | ⟨cardType, uid⟩ | _
  · exact ⟨congrArg _ (hq.raiseError e), congrArg _ (hq.raiseError e)⟩
  · exact ⟨congrArg _ (hq.deliver _), rfl⟩
  · exact ⟨rfl, congrArg _ (hq.deliver _)⟩

/-! ### Any number of polls of a PinSensed wait -/

theorem runSteps_snoc {n : Nat} {s t u : State} (h : runSteps n s = .next t) (ht : step t = .next u) :
    runSteps (n + 1) s = .next u := by
  induction n generalizing s with
  | zero => cases h; simp only [runSteps, ht]
  | succ n ih =>
    cases hs : step s with
    | next v =>
      simp only [runSteps, hs] at h ⊢
      exact ih h
    | fault f => simp [runSteps, hs] at h
    | refused r => simp [runSteps, hs] at h

/-- `s` after `k` polls of the pin, each followed by its poll interval; `levels` and `cancels` are what is left of the
answers laid down (R101). -/
def State.afterPolls (interval k : Nat) (levels : List Level) (cancels : List Bool) (s : State) : State :=
  { s with levels := ⟨levels, s.levels.drawn⟩, cancels := ⟨cancels, s.cancels.drawn⟩,
           history := s.history ++ (List.replicate k [.level s.cfg.pin, .delay interval]).flatten }

section AfterPolls

variable (interval k : Nat) (levels : List Level) (cancels : List Bool) (s : State)

@[simp] theorem State.afterPolls_cfg : (s.afterPolls interval k levels cancels).cfg = s.cfg := rfl
@[simp] theorem State.afterPolls_sel : (s.afterPolls interval k levels cancels).sel = s.sel := rfl
@[simp] theorem State.afterPolls_cardType : (s.afterPolls interval k levels cancels).cardType = s.cardType := rfl
@[simp] theorem State.afterPolls_uid : (s.afterPolls interval k levels cancels).uid = s.uid := rfl
@[simp] theorem State.afterPolls_results : (s.afterPolls interval k levels cancels).results = s.results := rfl
@[simp] theorem State.afterPolls_history : (s.afterPolls interval k levels cancels).history =
    s.history ++ (List.replicate k [.level s.cfg.pin, .delay interval]).flatten := rfl

end AfterPolls

theorem afterPolls_zero {s : State} {levels : List Level} {cancels : List Bool} (hl : s.levels.scripted = levels)
    (hc : s.cancels.scripted = cancels) (interval : Nat) : s.afterPolls interval 0 levels cancels = s := by
  subst hl hc
  simp [State.afterPolls]

theorem afterPolls_succ (interval k : Nat) (l : Level) (levels : List Level) (c : Bool) (cancels : List Bool)
    (s : State) :
    (s.afterPolls interval k (l :: levels) (c :: cancels)).cancelSample.pinRead.delay interval =
      s.afterPolls interval (k + 1) levels cancels := by
  simp [State.afterPolls, State.cancelSample, State.pinRead, State.delay, State.emit, Script.advance,
    List.replicate_succ']

theorem State.Quiet.afterPolls {s : State} (q : s.Quiet) (interval k : Nat) (levels : List Level)
    (cancels : List Bool) : (s.afterPolls interval k levels cancels).Quiet :=
  q.congr rfl rfl rfl rfl rfl rfl rfl

/-- `s` with the request `r`, its last, taken from the host port (R69, R101). -/
def State.taking (r : Request) (s : State) : State := { s with program := [], operand := r.operand }

theorem State.Quiet.taking {s : State} (q : s.Quiet) (r : Request) : (s.taking r).Quiet :=
  q.congr rfl rfl rfl rfl rfl rfl rfl

@[simp] theorem State.taking_cfg (r : Request) (s : State) : (s.taking r).cfg = s.cfg := rfl
@[simp] theorem State.taking_sel (r : Request) (s : State) : (s.taking r).sel = s.sel := rfl
@[simp] theorem State.taking_cardType (r : Request) (s : State) : (s.taking r).cardType = s.cardType := rfl
@[simp] theorem State.taking_uid (r : Request) (s : State) : (s.taking r).uid = s.uid := rfl
@[simp] theorem State.taking_results (r : Request) (s : State) : (s.taking r).results = s.results := rfl
@[simp] theorem State.taking_history (r : Request) (s : State) : (s.taking r).history = s.history := rfl

/-- A wait that goes on stands at POLL with no response and no result. -/
theorem State.Quiet.keepWaiting {s : State} (q : s.Quiet) (me : Instr) (interval : Nat) :
    s.keepWaiting me interval = (s.delay interval).inFlight me .poll none none none := by
  obtain ⟨_, _, _, ho, hf, _, hx⟩ := q
  simp [State.keepWaiting, State.inFlight, State.delay, State.emit, ho, hf, hx]

/-- The iteration of a poll that did not satisfy leaves the wait at POLL, one poll further. -/
theorem waitIteration_afterPolls {wanted : Bool} {other : Level} (hother : presentAt other ≠ wanted) {s : State}
    (q : s.Quiet) (hmode : s.cfg.mode = .pinSensed) (me : Instr) (interval k : Nat) (levels : List Level)
    (cancels : List Bool) :
    waitIteration me wanted interval (s.afterPolls interval k (other :: levels) (false :: cancels)) =
      (s.afterPolls interval (k + 1) levels cancels).inFlight me .poll none none none := by
  have h := waitIteration_of_other_level (me := me) (interval := interval)
    (s := s.afterPolls interval k (other :: levels) (false :: cancels)) hmode rfl hother
  rwa [(q.afterPolls ..).cancelSample_pinRead.keepWaiting, afterPolls_succ] at h

theorem step_afterPoll {me : Instr} {wanted : Bool} {interval : Nat} (hm : IsWait me wanted interval) {s : State}
    (q : s.Quiet) (ho : s.overlapping = []) (r : Except ErrorKind Bool) :
    step ((s.inFlight me .poll none none none).afterPoll wanted r) = .next (waitEnd me wanted interval r s) := by
  rw [← sequencerStep_afterPoll hm q .poll none none none r]
  rcases afterPoll_cases wanted r (s.inFlight me .poll none none none) with ⟨v, e⟩ | e <;> rw [e]
  · exact step_of_busy nofun ho
  · exact step_of_busy nofun ho

section Polls

variable {me : Instr} {wanted : Bool} {interval : Nat} (hm : IsWait me wanted interval)

include hm

/-- A PinSensed wait at POLL with nothing presented meanwhile runs its next iteration in two steps. -/
theorem runSteps_iteration {n : Nat} {s u : State} (q : u.Quiet) (hmode : u.cfg.mode = .pinSensed)
    (ho : u.overlapping = []) (hcancel : u.cancelAnswer = false)
    (h : runSteps n s = .next (u.inFlight me .poll none none none)) :
    runSteps (n + 2) s = .next (waitIteration me wanted interval u) := by
  have hpoll : step (u.inFlight me .poll none none none) =
      .next ((u.cancelSample.pinRead.inFlight me .poll none none none).afterPoll wanted
        (.ok (presentAt u.levelAnswer))) := by
    rw [step_of_busy (s := u.inFlight me .poll none none none) nofun ho, sequencerStep_poll hm rfl rfl,
      pollOnce_pinSensed (s := u.inFlight me .poll none none none) hcancel hmode]
    rfl
  rw [waitIteration_pinSensed hmode hcancel]
  exact runSteps_snoc (runSteps_snoc h hpoll) (step_afterPoll hm q.cancelSample_pinRead ho _)

/-- R185: a PinSensed wait that starts from `u` stands before its next iteration after any number `k` of polls at the
other level. -/
theorem runSteps_unsatisfied {other : Level} (hother : presentAt other ≠ wanted) {s u : State} (q : u.Quiet)
    (hmode : u.cfg.mode = .pinSensed) (ho : u.overlapping = [])
    (hstart : step s = .next (waitIteration me wanted interval u)) {k : Nat} {levels : List Level} {cancels : List Bool}
    (hl : u.levels.scripted = List.replicate k other ++ levels)
    (hc : u.cancels.scripted = List.replicate k false ++ false :: cancels) :
    runSteps (2 * k + 1) s =
      .next (waitIteration me wanted interval (u.afterPolls interval k levels (false :: cancels))) := by
  induction k generalizing levels cancels with
  | zero =>
    rw [afterPolls_zero (levels := levels) (cancels := false :: cancels) hl hc]
    exact runSteps_snoc rfl hstart
  | succ k ih =>
    have h := ih (levels := other :: levels) (cancels := false :: cancels)
      (by simpa [List.replicate_succ'] using hl) (by simpa [List.replicate_succ'] using hc)
    rw [waitIteration_afterPolls hother q hmode] at h
    exact runSteps_iteration hm (q.afterPolls ..) hmode ho rfl h

/-- The same for a wait presented to a block at rest. -/
theorem runSteps_presented_wait {other : Level} (hother : presentAt other ≠ wanted) {s : State} {r : Request}
    (q : s.Quiet) (hmode : s.cfg.mode = .pinSensed) (hp : s.program = [r]) (hr : decodeOp r.word = me)
    (ho : s.overlapping = []) {k : Nat} {levels : List Level} {cancels : List Bool}
    (hl : s.levels.scripted = List.replicate k other ++ levels)
    (hc : s.cancels.scripted = List.replicate (k + 1) false ++ cancels) :
    runSteps (2 * k + 1) s =
      .next (waitIteration me wanted interval ((s.taking r).afterPolls interval k levels (false :: cancels))) := by
  have hstart : step s = .next (waitIteration me wanted interval (s.taking r)) := by
    rw [step_of_idle q.idle hp, hr]
    exact exec_wait hm (q.taking r).idle
  exact runSteps_unsatisfied hm hother (q.taking r) hmode ho hstart hl
    (hc.trans (by simp [List.replicate_succ']))

end Polls

/-- Settles O47: after the k polls at the other level comes an iteration at the awaited one. -/
theorem waitReturnsWhenThePinDoes : Obligations.WaitReturnsWhenThePinDoes := by
  intro i awaited other interval k s r levels cancels hi q hmode hp hr ho hl hc
  obtain ⟨wanted, hm, hawaited, hother⟩ :
      ∃ wanted, IsWait i wanted interval ∧ presentAt awaited = wanted ∧ presentAt other ≠ wanted := by
    rcases hi with ⟨hi, rfl, rfl, ht⟩ | ⟨hi, rfl, rfl, ht⟩
    · exact ⟨true, .inl ⟨hi, rfl, ht⟩, by decide, by decide⟩
    · exact ⟨false, .inr ⟨hi, rfl, ht⟩, by decide, by decide⟩
  have hrun := runSteps_presented_wait hm hother q hmode hp hr ho hl hc
  have qu := (q.taking r).afterPolls interval k (awaited :: levels) (false :: cancels)
  rw [waitIteration_of_level qu hmode rfl hawaited] at hrun
  refine ⟨_, hrun, qu.cancelSample_pinRead.withResult _, ?_, ?_, ?_⟩
  · simp [State.SameRecord, State.withResult]
  · simp [State.withResult]
  · simp [State.withResult]

/-- Settles O48: after k polls at the other level comes one more. -/
theorem waitHasNoBound : Obligations.WaitHasNoBound := by
  intro i other interval k s r levels cancels hi q hmode hp hr ho hl hc
  obtain ⟨wanted, hm, hother⟩ : ∃ wanted, IsWait i wanted interval ∧ presentAt other ≠ wanted := by
    rcases hi with ⟨hi, rfl, ht⟩ | ⟨hi, rfl, ht⟩
    · exact ⟨true, .inl ⟨hi, rfl, ht⟩, by decide⟩
    · exact ⟨false, .inr ⟨hi, rfl, ht⟩, by decide⟩
  have hrun := runSteps_presented_wait hm hother q hmode hp hr ho (levels := other :: levels)
    (by simpa [List.replicate_succ'] using hl) hc
  rw [waitIteration_afterPolls hother (q.taking r) hmode] at hrun
  refine ⟨_, hrun, rfl, rfl, ?_, ?_⟩
  · simp [State.inFlight]
  · simp [State.inFlight]

end Sys2Proof.Machine
end

section
/-! PROOF. Family 60_exceptions.md: what ends an operation and what is refused. A host operation always answers a next
state, refused or not; the sequencer answers one in every phase, because the invariant holds what the phase works on.
CANCEL is sampled by the two waits alone, and a wait that samples 1 ends there. -/

namespace Sys2Proof.Machine

/-! ### A step answers a next state -/

theorem exec_hostWord_answers {i : Instr} (h : i.port = .hostWord) (s : State) : ∃ t, exec i s = .next t :=
  ⟨_, exec_hostWord i s h⟩

/-- R34: at POLL stands one of the waits, or an IS_PRESENT by the pin. -/
theorem legalAt_poll {mode : PresenceMode} {i : Instr} (h : legalAt mode .poll i = true) :
    i = .waitUntilPresent ∨ i = .waitUntilAbsent ∨ i = .isPresent := by
  simp only [legalAt, Bool.or_eq_true, Bool.and_eq_true, decide_eq_true_eq] at h
  exact or_assoc.1 (h.imp_right And.left)

/-- R34: at POLL_WAIT stands one of the waits. -/
theorem legalAt_pollWait {mode : PresenceMode} {i : Instr} (h : legalAt mode .pollWait i = true) :
    i = .waitUntilPresent ∨ i = .waitUntilAbsent := by
  simpa [legalAt] using h

theorem sequencerStep_poll_isPresent {s : State} (hp : s.phase = .poll) (hc : s.current = some .isPresent) :
    sequencerStep s = .next (s.pinRead.endWith (.ok (.present (presentAt s.levelAnswer)))) := by
  simp only [sequencerStep, hp, hc]

theorem decodeRead_answers (s : State) : ∃ t, s.decodeRead = .next t := by
  rcases decodeRead_cases s with ⟨_, _, e⟩ | ⟨_, _, ⟨_, e⟩ | ⟨_, _, _, e⟩ | ⟨_, _, _, e⟩⟩ <;> exact ⟨_, e⟩

/-- The sequencer is never stuck (R34): the invariant holds what each phase works on. -/
theorem State.Inv.sequencerStep_answers {s : State} (h : s.Inv) : ∃ t, sequencerStep s = .next t := by
  have operation {p : Phase} (hp : s.phase = p) (hb : p ≠ .idle) :
      ∃ i, s.current = some i ∧ legalAt s.cfg.mode p i = true := by
    subst hp
    obtain ⟨i, hc⟩ := Option.ne_none_iff_exists'.1 (mt h.atRest.2 hb)
    exact ⟨i, hc, h.position i hc⟩
  cases hp : s.phase with
  | idle => exact ⟨s, by simp only [sequencerStep, hp]⟩
  | encode => exact ⟨_, by simp only [sequencerStep, hp]; rfl⟩
  | txWrite => exact ⟨_, by simp only [sequencerStep, hp]; exact exec_commandRow s⟩
  | turnaround => exact ⟨_, by simp only [sequencerStep, hp]; rfl⟩
  | rxRead => exact ⟨_, by simp only [sequencerStep, hp]; rfl⟩
  | decode =>
    rw [sequencerStep_decode hp]
    exact decodeRead_answers s
  | validate =>
    obtain ⟨id, hid⟩ := Option.ne_none_iff_exists'.1 (h.validates hp).2
    exact ⟨_, sequencerStep_validate hp hid⟩
  | commit =>
    rcases h.commits hp with ⟨⟨e, he⟩, hf⟩ | ⟨_, hf⟩
    · exact ⟨_, sequencerStep_of_select_error hp hf he⟩
    · obtain ⟨r, hr⟩ := Option.ne_none_iff_exists'.1 hf
      exact ⟨_, sequencerStep_of_found hp hr⟩
  | poll =>
    obtain ⟨i, hc, hl⟩ := operation hp nofun
    rcases legalAt_poll hl with rfl | rfl | rfl
    · exact ⟨_, sequencerStep_poll (.inl ⟨rfl, rfl, rfl⟩) hp hc⟩
    · exact ⟨_, sequencerStep_poll (.inr ⟨rfl, rfl, rfl⟩) hp hc⟩
    · exact ⟨_, sequencerStep_poll_isPresent hp hc⟩
  | pollWait =>
    obtain ⟨i, hc, hl⟩ := operation hp nofun
    rcases legalAt_pollWait hl with rfl | rfl
    · exact ⟨_, sequencerStep_pollWait_present hp hc⟩
    · exact ⟨_, sequencerStep_pollWait_absent hp hc⟩
  | done =>
    obtain ⟨r, hr⟩ := Option.ne_none_iff_exists'.1 (h.finished hp)
    exact ⟨_, sequencerStep_done hp hr⟩

theorem State.Inv.step_answers {s : State} (h : s.Inv) : ∃ t, step s = .next t := by
  by_cases hi : s.phase = .idle
  · cases hp : s.program with
    | nil => exact ⟨s, step_of_nothing_presented hi hp⟩
    | cons r rest =>
      rw [step_of_idle hi hp]
      exact exec_hostWord_answers (decodeOp_port _) _
  · cases ho : s.overlapping with
    | nil =>
      rw [step_of_busy hi ho]
      exact h.sequencerStep_answers
    | cons r rest =>
      rw [step_of_overlapping hi ho]
      exact exec_hostWord_answers (decodeOp_port _) _

/-- Settles O9: a step answers a next state, and a step keeps the invariant. -/
theorem stepNeverStops : Obligations.StepNeverStops := by
  intro s h
  obtain ⟨t, ht⟩ := h.step_answers
  exact ⟨t, ht, stepKeepsTheInvariant s t h ht⟩

/-! ### Refusals -/

/-- Settles O11: the refusal comes before the operation, whichever it is. -/
theorem busyBlockRefusesEveryOperation : Obligations.BusyBlockRefusesEveryOperation :=
  fun _ _ => exec_of_busy

/-- Settles O12: the step executes the word on the busy block, which refuses it. -/
theorem stepRefusesOverlappingWords : Obligations.StepRefusesOverlappingWords := by
  intro s r rest hb ho
  rw [step_of_overlapping (by simpa [State.busy] using hb) ho]
  exact exec_of_busy (decodeOp_port _) hb

/-! ### How an operation ends -/

theorem State.Quiet.cancelSample {s : State} (q : s.Quiet) : s.cancelSample.Quiet := q.congr rfl rfl rfl rfl rfl rfl rfl

/-- An operation's work up to its result leaves no transient state (R20 (c)). -/
theorem State.Quiet.beforeResult {s : State} (q : s.Quiet) (i : Instr) : (beforeResult i s).Quiet :=
  beforeResult_induction i q (fun _ h => h.clearRecord) (fun _ h => h.congr rfl rfl rfl rfl rfl rfl rfl)
    (fun _ h => h.cancelSample) (fun _ h => h.selectTag) (fun _ h => h.readFirmware)

/-- Settles O13: an operation ends with a result, goes on waiting, or is an unassigned code and is refused. -/
theorem operationsEndIdleOrWait : Obligations.OperationsEndIdleOrWait := by
  intro i s hport q
  refine ⟨_, exec_of_idle hport q.idle, ?_⟩
  have hq := q.beforeResult i
  obtain ⟨-, hres⟩ := beforeResult_worked i s
  rcases hostEffect_cases i s with ⟨r, e⟩ | ⟨hi, ms, -, e⟩ | e <;> rw [e]
  · rw [hq.conclude]
    exact .inl ⟨hq.withResult _, _, congrArg (· ++ _) hres⟩
  · exact .inr ⟨hi, rfl, rfl, hres⟩
  · exact .inl ⟨q.withResult _, _, rfl⟩

/-! ### Who samples CANCEL -/

theorem Exchanged.cancels {cmd : Byte} {s u : State} (h : Exchanged cmd s u) : u.cancels = s.cancels := by
  cases h <;> rfl

theorem selectTag_keeps_cancels (s : State) : (selectTag s).2.cancels = s.cancels := by
  obtain ⟨u, r, hu, e, -⟩ := selectTag_exchanged s
  rw [e, State.recordOf_cancels, hu.cancels]

theorem pollPresence_keeps_cancels (s : State) : (pollPresence s).2.cancels = s.cancels := by
  unfold pollPresence
  split
  · rfl
  · exact selectTag_keeps_cancels s

@[simp] theorem State.conclude_cancels (s : State) (r : Except ErrorKind Value) :
    (s.conclude r).cancels = s.cancels := by
  cases r <;> rfl

theorem beforeResult_keeps_cancels {i : Instr} (hp : i ≠ .waitUntilPresent) (ha : i ≠ .waitUntilAbsent) (s : State) :
    (beforeResult i s).cancels = s.cancels := by
  cases i with
  | waitUntilPresent => contradiction
  | waitUntilAbsent => contradiction
  | selectTag => exact selectTag_keeps_cancels s
  | getFirmware => exact (readFirmware_exchanged s).cancels
  | isPresent => exact pollPresence_keeps_cancels s
  | _ => rfl

theorem hostEffect_keeps_cancels {i : Instr} (hp : i ≠ .waitUntilPresent) (ha : i ≠ .waitUntilAbsent) (s : State) :
    (hostEffect i s).cancels = s.cancels := by
  have h := beforeResult_keeps_cancels hp ha s
  rcases hostEffect_cases i s with ⟨r, e⟩ | ⟨hi, -⟩ | e
  · rw [e, State.conclude_cancels, h]
  · exact absurd hi (not_or.2 ⟨hp, ha⟩)
  · rw [e]
    rfl

theorem sendCommand_keeps_cancels (cmd : Byte) (s : State) : (s.sendCommand cmd).cancels = s.cancels := by
  cases hw : s.writeAnswer with
  | ok => rw [sendCommand_of_ok hw]; rfl
  | ioError => rw [sendCommand_of_ioError hw]; rfl

theorem fieldsTaken_keeps_cancels (cmd : Byte) (payload : List Byte) (r : Except ErrorKind SelectResult) (s : State) :
    (s.fieldsTaken cmd payload r).cancels = s.cancels := by
  cases r <;> rfl

/-- The moves on a frame: CANCEL is looked at between polls, never inside an exchange (R211). -/
theorem exec_frame_keeps_cancels {i : Instr} {s t : State} (hp : i.port ≠ .hostWord) (h : exec i s = .next t) :
    t.cancels = s.cancels := by
  cases i with
  | cmdFrame cmd => cases h; rfl
  | cmdFrameSelectMifare => cases h; exact sendCommand_keeps_cancels _ s
  | cmdFrameGetFirmware => cases h; exact sendCommand_keeps_cancels _ s
  | respFrame cmd payload => cases h; rfl
  | respSelect cmd status uid type =>
    cases (exec_respSelect cmd status uid type s).symm.trans h
    exact fieldsTaken_keeps_cancels ..
  | respFirmware cmd reserved fwid => cases h; rfl
  | _ => exact absurd rfl hp

/-- Settles O21: neither a refusal, nor the effect of such an operation, nor a move on a frame takes a sample. -/
theorem onlyWaitsSampleCancel : Obligations.OnlyWaitsSampleCancel := by
  intro i s t hp ha h
  by_cases hport : i.port = .hostWord
  · rcases exec_hostWord_cases hport h with ⟨_, rfl⟩ | ⟨_, rfl⟩
    · rfl
    · exact hostEffect_keeps_cancels hp ha s
  · exact exec_frame_keeps_cancels hport h

/-! ### A cancelled wait -/

section Cancelled

variable {me : Instr} {wanted : Bool} {interval : Nat} (hm : IsWait me wanted interval) {s : State}
  (hcancel : s.cancelAnswer = true)
include hm hcancel

/-- A wait that samples 1 when it starts. -/
theorem exec_wait_cancelled (q : s.Quiet) : exec me s = .next (s.cancelSample.withResult (.err .cancelled)) := by
  rw [exec_wait hm q.idle, waitIteration_eq, if_pos hcancel, q.cancelSample.raiseError]

/-- A wait that samples 1 at POLL ends in two steps, POLL and DONE. -/
theorem runSteps_wait_cancelled (hp : s.phase = .poll) (hc : s.current = some me) (ho : s.overlapping = []) :
    runSteps 2 s = .next (s.cancelSample.deliver (.err .cancelled)) := by
  have hpoll : step s = .next (s.cancelSample.endWith (.err .cancelled)) := by
    rw [step_of_busy (by simp [hp]) ho, sequencerStep_poll hm hp hc, pollOnce_of_cancel hcancel]
  have hdone : step (s.cancelSample.endWith (.err .cancelled)) = .next (s.cancelSample.deliver (.err .cancelled)) := by
    rw [step_of_busy (s := s.cancelSample.endWith _) nofun ho, sequencerStep_endWith]
  exact runSteps_snoc (runSteps_snoc rfl hpoll) hdone

end Cancelled

/-- Settles O45: a wait takes the sample before it polls, at its start and at POLL. -/
theorem cancelledWaitPollsNothing : Obligations.CancelledWaitPollsNothing := by
  intro s hcancel
  have present : IsWait .waitUntilPresent true tPollPresent := .inl ⟨rfl, rfl, rfl⟩
  have absent : IsWait .waitUntilAbsent false tPollAbsent := .inr ⟨rfl, rfl, rfl⟩
  refine ⟨fun q => ⟨exec_wait_cancelled present hcancel q, exec_wait_cancelled absent hcancel q⟩, ?_⟩
  rintro hp (hc | hc) ho
  · exact runSteps_wait_cancelled present hcancel hp hc ho
  · exact runSteps_wait_cancelled absent hcancel hp hc ho

end Sys2Proof.Machine
end
